-- ==== Sys2Proof/Word.lean ====
section
/-! DEFINITION. The word types of the machine (spec/00_scope.md R6, R7). -/

namespace Sys2Proof

/-- A register's width: "all of which are 64-bits wide" (spec/10_state.md R20). Also a data address (R50). -/
abbrev Word := BitVec 64

/-- The low half of a register, the operand of the 32-bit classes (R20, spec/40_alu.md R141). -/
abbrev Half := BitVec 32

/-- One byte of data memory or of program text (spec/20_memory.md R50). -/
abbrev Byte := BitVec 8

/-- The `imm` field: a signed 32-bit value, held as its pattern (spec/30_encoding.md R93). -/
abbrev Imm := BitVec 32

/-- The `offset` field: a signed 16-bit value, held as its pattern (R93). -/
abbrev Off := BitVec 16

/-- One 64-bit unit of program text, as its eight bytes: byte `k`, counted from the lowest address, is
bits `8k+7` to `8k` (spec/00_scope.md R7). Which field a byte holds depends on `ENDIAN` (R91, R92), so a
`Slot` is not the canonical word `W` of R95 unless the program is little-endian BPF. -/
abbrev Slot := BitVec 64

end Sys2Proof
end

