-- ==== Sys2Proof/Config.lean ====
section
/-! DEFINITION. What the platform fixes (the parameters of spec/00_scope.md R5) as plain data, and the
model's free values: constants with no body, so that no proof can see what they are. -/

namespace Sys2Proof

/-! ## The choices that change how a slot is read -/

/-- `ENDIAN` (R2, R5): the encoding variant, the data byte order and the host byte order. -/
inductive Endian where
  | little
  | big
deriving DecidableEq, Repr

/-- `NEG_OPERAND` (spec/40_alu.md R146): which value BPF_NEG negates. -/
inductive NegOperand where
  | src
  | dst
deriving DecidableEq, Repr

/-- `LOCAL_CALL_FIELD` (spec/42_jump.md R263): the field that holds a local call's displacement. -/
inductive LocalCallField where
  | offset
  | imm
deriving DecidableEq, Repr

/-- The three parameters that decide which slots are which instructions. -/
structure Variant where
  endian : Endian
  negOperand : NegOperand
  localCallField : LocalCallField
deriving DecidableEq, Repr

/-! ## Memory -/

/-- What an access needs of its region (R51). -/
inductive Access where
  | read
  | write
deriving DecidableEq, Repr

/-- The width of a data access (spec/20_memory.md R60). -/
inductive Width where
  | b
  | h
  | w
  | dw
deriving DecidableEq, Repr

/-- A record of `REGIONS` (R51). -/
structure Region where
  base : Word
  len : Word
  readable : Bool
  writable : Bool
  shared : Bool
deriving DecidableEq, Repr

/-- `MISALIGNED` (R59): what a misaligned plain load or store does. -/
inductive Misaligned where
  | fault
  | allow
deriving DecidableEq, Repr

/-- The treatment of a read of a register, or of a byte, that holds no value. The spec allows two
(spec/10_state.md R36, spec/20_memory.md R52): raise the fault, or draw a fresh arbitrary value. -/
inductive NoValue where
  | fault
  | draw
deriving DecidableEq, Repr

/-! ## Relations the platform supplies

`HELPERS` and `MEMORY_MODEL` are relations (R5). They are held as plain data: a list of rules, each with a condition and
a result, both terms over what the relation relates. A result is allowed if the condition of its rule holds; several may
be, or none. -/

/-- An operation of a term on two words; a comparison answers 1 or 0. -/
inductive TermOp where
  | add
  | sub
  | mul
  | div
  | mod
  | and
  | or
  | xor
  | shl
  | shr
  | eq
  | lt
deriving DecidableEq, Repr

/-- A term, with a word as its value. `bound k` is the `k`-th innermost bound word. -/
inductive Term where
  /-- This word. -/
  | const (w : Word)
  /-- The `k`-th argument of the relation. -/
  | arg (k : Nat)
  | bound (k : Nat)
  /-- The byte of data memory at an address; an arbitrary one where it holds no value. -/
  | byteAt (addr : Term)
  /-- Whether the byte at an address holds a value (R52). -/
  | hasByte (addr : Term)
  /-- The byte with which the latest load of a shared address was answered; 0 if there was none. -/
  | answered (addr : Term)
  /-- Whether there was one. -/
  | wasAnswered (addr : Term)
  /-- An arbitrary value, one for each key. -/
  | any (key : Term)
  | op (o : TermOp) (l r : Term)
  /-- `t` if `c` is not zero, else `e`. -/
  | cond (c t e : Term)
  /-- `body` repeated `count` times from `init`; in it `bound 0` is the value so far and `bound 1` the index from 0. -/
  | iterate (count init body : Term)
deriving DecidableEq, Repr

/-- A rule of `MEMORY_MODEL`: an answer, allowed where the condition is not zero. Argument 0 is the address of the load,
argument 1 its number of bytes, `byteAt` the program's own latest store. -/
structure AnswerRule where
  condition : Term
  answer : Term
deriving DecidableEq, Repr

/-- `MEMORY_MODEL` (R5, R66 item 4): "which answers are allowed" to a load from a shared region. `unconstrained`: "with
no such parameter every answer is allowed". `relation`: the answers its rules allow; where they allow none, the
program's own latest store (R66 item 2). -/
inductive MemoryModel where
  | unconstrained
  | relation (rules : List AnswerRule)
deriving DecidableEq, Repr

/-- The memory model in which no other agent writes. -/
abbrev MemoryModel.noOtherWriter : MemoryModel := .relation []

/-! ## Helper functions -/

/-- How a helper is identified (spec/42_jump.md R266): by address or by BTF ID. -/
inductive HelperKind where
  | byAddress
  | byBtfId
deriving DecidableEq, Repr

/-- What one helper call comes to (R262, R266): a result with the bytes it wrote, in order; a fault, with
the platform's own information; or no result at all. -/
inductive HelperOutcome where
  | returns (r0 : Word) (writes : List (Word × Byte))
  | faults (info : Word)
  | doesNotReturn
deriving DecidableEq, Repr, Inhabited

/-- Bytes a helper writes: `count` bytes at rising addresses from `addr`; in `value`, `bound 0` is the index. -/
structure HelperWrite where
  addr : Term
  count : Term
  value : Term
deriving DecidableEq, Repr

/-- An outcome in terms of the arguments and the memory before the call. -/
inductive HelperResult where
  | returns (r0 : Term) (writes : List HelperWrite)
  | faults (info : Term)
  | doesNotReturn
deriving DecidableEq, Repr

/-- A rule of a helper's relation: a result, allowed where the condition is not zero. Argument `k` is the `k`-th of the
registers the helper reads. -/
structure HelperRule where
  condition : Term
  result : HelperResult
deriving DecidableEq, Repr

/-- The relation a helper stands for (R266), between the arguments with the memory and the outcomes. `oracle`: nothing
is known of it, every outcome is possible. `relation`: the outcomes its rules allow, and no result at all where they
allow none (R262: "a helper may have no result at all for some arguments"). -/
inductive HelperBehaviour where
  | oracle
  | relation (rules : List HelperRule)
deriving DecidableEq, Repr

/-- One entry of `HELPERS`. `reads` lists the argument registers its relation reads, in order: `0` is R1
and `4` is R5 (R262: "an argument register that holds no value faults only if the helper's relation reads
it"). -/
structure Helper where
  kind : HelperKind
  id : BitVec 32
  reads : List (Fin 5)
  behaviour : HelperBehaviour
deriving DecidableEq, Repr

/-! ## The platform -/

/-- The parameters of spec/00_scope.md R5 but for `PROGRAM` and `ENTRY_ARGS`. Each partial function is the
finite table of its values. -/
structure Platform where
  variant : Variant
  /-- `REGIONS`, the stack frames among them (R51). -/
  regions : List Region
  /-- `STACK_SIZE`: bytes in one stack frame (R52). -/
  stackSize : Nat
  /-- `FRAME_TOP`: entry `d` is the value of R10 in the frame at depth `d` (R52). -/
  frameTops : List Word
  /-- `MAX_CALL_DEPTH` (R269). -/
  maxCallDepth : Nat
  misaligned : Misaligned
  noValue : NoValue
  memoryModel : MemoryModel
  /-- `HELPERS` (R266). -/
  helpers : List Helper
  /-- `MAP_BY_FD` (R344). -/
  mapByFd : List (BitVec 32 × Word)
  /-- `MAP_BY_IDX` (R344). -/
  mapByIdx : List (BitVec 32 × Word)
  /-- `MAP_VAL` (R344). -/
  mapVal : List (Word × Word)
  /-- `VAR_ADDR` (R344). -/
  varAddr : List (BitVec 32 × Word)
  /-- `CODE_ADDR`: from the instruction's slot index and its `imm` (spec/45_imm64.md R338). -/
  codeAddr : List ((Int × BitVec 32) × Word)
deriving DecidableEq, Repr

/-- The reading of the source's letter (R5: `NEG_OPERAND` = src, `LOCAL_CALL_FIELD` = offset). ENDIAN is OPEN
in the spec; little is the model's DESIGN CHOICE (log 2, unsafe). -/
def Variant.letter : Variant := { endian := .little, negOperand := .src, localCallField := .offset }

/-- The concrete placement R52 offers: `FRAME_TOP(d) = STACK_BASE + (MAX_CALL_DEPTH + 1 - d) * STACK_SIZE`. -/
def framePlacement (stackBase maxDepth stackSize : Nat) : List Word :=
  (List.range (maxDepth + 1)).map fun d => BitVec.ofNat 64 (stackBase + (maxDepth + 1 - d) * stackSize)

/-- The region of a frame: private, readable and writable, below its top (R52). -/
def frameRegion (stackSize : Nat) (top : Word) : Region :=
  { base := BitVec.ofNat 64 (top.toNat - stackSize), len := BitVec.ofNat 64 stackSize,
    readable := true, writable := true, shared := false }

/-- The platform of `State.reset`: the defaults spec/00_scope.md R5 suggests where it suggests one, the frame
placement of spec/95_test_vectors.md, and nothing granted beyond the stack. DESIGN CHOICE where R5 has no
default (log 2, unsafe). -/
def Platform.bare : Platform :=
  { variant := Variant.letter
    regions := (framePlacement 0x10000 8 512).map (frameRegion 512)
    stackSize := 512
    frameTops := framePlacement 0x10000 8 512
    maxCallDepth := 8
    misaligned := .fault
    noValue := .draw
    memoryModel := .unconstrained
    helpers := []
    mapByFd := []
    mapByIdx := []
    mapVal := []
    varAddr := []
    codeAddr := [] }

/-! ## Free values -/

/-- The value the `n`-th draw gives a register that holds no value (R36). DESIGN CHOICE, log 5, safe: nothing is
known of it. -/
opaque Config.freeWord : Nat → Word

/-- The value the `n`-th draw gives the byte at an address that holds no value (R52). Log 5, safe. -/
opaque Config.freeByte : Nat → Nat → Byte

/-- What another agent last wrote to a shared byte before the `n`-th draw, if it wrote there at all since the
program's own latest store (R66). Log 9, safe. -/
opaque Config.otherAgent : Nat → Nat → Option Byte

/-- What a helper of which nothing is known does with these arguments, this memory, at the `n`-th draw (R266).
Log 8, safe. -/
opaque Config.helperAnswer : HelperKind → BitVec 32 → List Word → List Host.Cell → Nat → HelperOutcome

/-- The arbitrary value of a key in a helper's relation at the `n`-th draw, for these arguments. Log 8, safe. -/
opaque Config.helperAny : Nat → List Word → Word → Word

/-- Which of the outcomes a helper's relation allows is the one, at the `n`-th draw (R266: "it must not assume ... that it
is deterministic"). Log 8, safe. -/
opaque Config.helperChoice : Nat → Nat

/-- The arbitrary value of a key in `MEMORY_MODEL` at the `n`-th draw, for a load of this address and width. Log 9,
safe. -/
opaque Config.answerAny : Nat → List Word → Word → Word

/-- Which of the answers `MEMORY_MODEL` allows to that load is the one. Log 9, safe. -/
opaque Config.answerChoice : Nat → List Word → Nat

/-- The order of the separate accesses of a misaligned load of this many bytes that begins at the `n`-th draw, as offsets
(R59: "in unspecified order"). Log 12, safe. -/
opaque Config.accessOrder : Nat → Nat → List Nat

end Sys2Proof
end

