-- ==== Sys2Proof/Syntax.lean ====
section
/-! DEFINITION. The instructions: one constructor per row of spec/opcode_table.json, named after its mnemonic.
Register numbers are already registers here: an encoding with another number is no instruction (spec/10_state.md
R22, R23). -/

namespace Sys2Proof

/-- A register an instruction may read, R0 to R10 (R22, R23). -/
abbrev Reg := Fin 11

/-- A register an instruction may write, R0 to R9: R10 is read-only (R22). -/
abbrev Dst := Fin 10

/-- The source operand of an arithmetic instruction or a conditional jump (spec/30_encoding.md R100): BPF_K
"use 32-bit 'imm' value as source operand", BPF_X "use 'src_reg' register value as source operand". -/
inductive Operand where
  | imm (i : Imm)
  | reg (r : Reg)
deriving DecidableEq, Repr

/-- The 146 instructions (R116). `off` is the field `offset`, `imm` and `nextImm` the immediate fields of the
first and the second slot. A local call's displacement is `disp`, whichever field holds it (R263, log 15). -/
inductive Instr where
  -- Arithmetic (spec/40_alu.md)
  | add32K (dst : Dst) (imm : Imm) -- ADD32_K, R147
  | add32X (dst : Dst) (src : Reg) -- ADD32_X, R148
  | add64K (dst : Dst) (imm : Imm) -- ADD64_K, R149
  | add64X (dst : Dst) (src : Reg) -- ADD64_X, R150
  | sub32K (dst : Dst) (imm : Imm) -- SUB32_K, R151
  | sub32X (dst : Dst) (src : Reg) -- SUB32_X, R152
  | sub64K (dst : Dst) (imm : Imm) -- SUB64_K, R153
  | sub64X (dst : Dst) (src : Reg) -- SUB64_X, R154
  | mul32K (dst : Dst) (imm : Imm) -- MUL32_K, R155
  | mul32X (dst : Dst) (src : Reg) -- MUL32_X, R156
  | mul64K (dst : Dst) (imm : Imm) -- MUL64_K, R157
  | mul64X (dst : Dst) (src : Reg) -- MUL64_X, R158
  | div32K (dst : Dst) (imm : Imm) -- DIV32_K, R159
  | div32X (dst : Dst) (src : Reg) -- DIV32_X, R160
  | div64K (dst : Dst) (imm : Imm) -- DIV64_K, R161
  | div64X (dst : Dst) (src : Reg) -- DIV64_X, R162
  | or32K (dst : Dst) (imm : Imm) -- OR32_K, R163
  | or32X (dst : Dst) (src : Reg) -- OR32_X, R164
  | or64K (dst : Dst) (imm : Imm) -- OR64_K, R165
  | or64X (dst : Dst) (src : Reg) -- OR64_X, R166
  | and32K (dst : Dst) (imm : Imm) -- AND32_K, R167
  | and32X (dst : Dst) (src : Reg) -- AND32_X, R168
  | and64K (dst : Dst) (imm : Imm) -- AND64_K, R169
  | and64X (dst : Dst) (src : Reg) -- AND64_X, R170
  | lsh32K (dst : Dst) (imm : Imm) -- LSH32_K, R171
  | lsh32X (dst : Dst) (src : Reg) -- LSH32_X, R172
  | lsh64K (dst : Dst) (imm : Imm) -- LSH64_K, R173
  | lsh64X (dst : Dst) (src : Reg) -- LSH64_X, R174
  | rsh32K (dst : Dst) (imm : Imm) -- RSH32_K, R175
  | rsh32X (dst : Dst) (src : Reg) -- RSH32_X, R176
  | rsh64K (dst : Dst) (imm : Imm) -- RSH64_K, R177
  | rsh64X (dst : Dst) (src : Reg) -- RSH64_X, R178
  | neg32K (dst : Dst) (imm : Imm) -- NEG32_K, R179
  | neg32X (dst : Dst) (src : Reg) -- NEG32_X, R180
  | neg64K (dst : Dst) (imm : Imm) -- NEG64_K, R181
  | neg64X (dst : Dst) (src : Reg) -- NEG64_X, R182
  | mod32K (dst : Dst) (imm : Imm) -- MOD32_K, R183
  | mod32X (dst : Dst) (src : Reg) -- MOD32_X, R184
  | mod64K (dst : Dst) (imm : Imm) -- MOD64_K, R185
  | mod64X (dst : Dst) (src : Reg) -- MOD64_X, R186
  | xor32K (dst : Dst) (imm : Imm) -- XOR32_K, R187
  | xor32X (dst : Dst) (src : Reg) -- XOR32_X, R188
  | xor64K (dst : Dst) (imm : Imm) -- XOR64_K, R189
  | xor64X (dst : Dst) (src : Reg) -- XOR64_X, R190
  | mov32K (dst : Dst) (imm : Imm) -- MOV32_K, R191
  | mov32X (dst : Dst) (src : Reg) -- MOV32_X, R192
  | mov64K (dst : Dst) (imm : Imm) -- MOV64_K, R193
  | mov64X (dst : Dst) (src : Reg) -- MOV64_X, R194
  | arsh32K (dst : Dst) (imm : Imm) -- ARSH32_K, R195
  | arsh32X (dst : Dst) (src : Reg) -- ARSH32_X, R196
  | arsh64K (dst : Dst) (imm : Imm) -- ARSH64_K, R197
  | arsh64X (dst : Dst) (src : Reg) -- ARSH64_X, R198
  -- Byte swap (spec/41_byteswap.md)
  | le16 (dst : Dst) -- LE16, R202
  | le32 (dst : Dst) -- LE32, R203
  | le64 (dst : Dst) -- LE64, R204
  | be16 (dst : Dst) -- BE16, R205
  | be32 (dst : Dst) -- BE32, R206
  | be64 (dst : Dst) -- BE64, R207
  -- Jumps (spec/42_jump.md)
  | jeq64K (dst : Reg) (imm : Imm) (off : Off) -- JEQ64_K, R218
  | jeq64X (dst : Reg) (src : Reg) (off : Off) -- JEQ64_X, R219
  | jeq32K (dst : Reg) (imm : Imm) (off : Off) -- JEQ32_K, R220
  | jeq32X (dst : Reg) (src : Reg) (off : Off) -- JEQ32_X, R221
  | jgt64K (dst : Reg) (imm : Imm) (off : Off) -- JGT64_K, R222
  | jgt64X (dst : Reg) (src : Reg) (off : Off) -- JGT64_X, R223
  | jgt32K (dst : Reg) (imm : Imm) (off : Off) -- JGT32_K, R224
  | jgt32X (dst : Reg) (src : Reg) (off : Off) -- JGT32_X, R225
  | jge64K (dst : Reg) (imm : Imm) (off : Off) -- JGE64_K, R226
  | jge64X (dst : Reg) (src : Reg) (off : Off) -- JGE64_X, R227
  | jge32K (dst : Reg) (imm : Imm) (off : Off) -- JGE32_K, R228
  | jge32X (dst : Reg) (src : Reg) (off : Off) -- JGE32_X, R229
  | jset64K (dst : Reg) (imm : Imm) (off : Off) -- JSET64_K, R230
  | jset64X (dst : Reg) (src : Reg) (off : Off) -- JSET64_X, R231
  | jset32K (dst : Reg) (imm : Imm) (off : Off) -- JSET32_K, R232
  | jset32X (dst : Reg) (src : Reg) (off : Off) -- JSET32_X, R233
  | jne64K (dst : Reg) (imm : Imm) (off : Off) -- JNE64_K, R234
  | jne64X (dst : Reg) (src : Reg) (off : Off) -- JNE64_X, R235
  | jne32K (dst : Reg) (imm : Imm) (off : Off) -- JNE32_K, R236
  | jne32X (dst : Reg) (src : Reg) (off : Off) -- JNE32_X, R237
  | jsgt64K (dst : Reg) (imm : Imm) (off : Off) -- JSGT64_K, R238
  | jsgt64X (dst : Reg) (src : Reg) (off : Off) -- JSGT64_X, R239
  | jsgt32K (dst : Reg) (imm : Imm) (off : Off) -- JSGT32_K, R240
  | jsgt32X (dst : Reg) (src : Reg) (off : Off) -- JSGT32_X, R241
  | jsge64K (dst : Reg) (imm : Imm) (off : Off) -- JSGE64_K, R242
  | jsge64X (dst : Reg) (src : Reg) (off : Off) -- JSGE64_X, R243
  | jsge32K (dst : Reg) (imm : Imm) (off : Off) -- JSGE32_K, R244
  | jsge32X (dst : Reg) (src : Reg) (off : Off) -- JSGE32_X, R245
  | jlt64K (dst : Reg) (imm : Imm) (off : Off) -- JLT64_K, R246
  | jlt64X (dst : Reg) (src : Reg) (off : Off) -- JLT64_X, R247
  | jlt32K (dst : Reg) (imm : Imm) (off : Off) -- JLT32_K, R248
  | jlt32X (dst : Reg) (src : Reg) (off : Off) -- JLT32_X, R249
  | jle64K (dst : Reg) (imm : Imm) (off : Off) -- JLE64_K, R250
  | jle64X (dst : Reg) (src : Reg) (off : Off) -- JLE64_X, R251
  | jle32K (dst : Reg) (imm : Imm) (off : Off) -- JLE32_K, R252
  | jle32X (dst : Reg) (src : Reg) (off : Off) -- JLE32_X, R253
  | jslt64K (dst : Reg) (imm : Imm) (off : Off) -- JSLT64_K, R254
  | jslt64X (dst : Reg) (src : Reg) (off : Off) -- JSLT64_X, R255
  | jslt32K (dst : Reg) (imm : Imm) (off : Off) -- JSLT32_K, R256
  | jslt32X (dst : Reg) (src : Reg) (off : Off) -- JSLT32_X, R257
  | jsle64K (dst : Reg) (imm : Imm) (off : Off) -- JSLE64_K, R258
  | jsle64X (dst : Reg) (src : Reg) (off : Off) -- JSLE64_X, R259
  | jsle32K (dst : Reg) (imm : Imm) (off : Off) -- JSLE32_K, R260
  | jsle32X (dst : Reg) (src : Reg) (off : Off) -- JSLE32_X, R261
  | ja (off : Off) -- JA, R217
  -- Calls and exit (spec/42_jump.md)
  | callHelper (imm : Imm) -- CALL_HELPER, R262
  | callLocal (disp : BitVec 32) -- CALL_LOCAL, R263
  | callBtf (imm : Imm) -- CALL_BTF, R264
  | exit -- EXIT, R265
  -- Loads and stores (spec/43_load_store.md)
  | ldxW (dst : Dst) (src : Reg) (off : Off) -- LDX_W, R285
  | ldxH (dst : Dst) (src : Reg) (off : Off) -- LDX_H, R286
  | ldxB (dst : Dst) (src : Reg) (off : Off) -- LDX_B, R287
  | ldxDw (dst : Dst) (src : Reg) (off : Off) -- LDX_DW, R288
  | stW (dst : Reg) (off : Off) (imm : Imm) -- ST_W, R289
  | stH (dst : Reg) (off : Off) (imm : Imm) -- ST_H, R290
  | stB (dst : Reg) (off : Off) (imm : Imm) -- ST_B, R291
  | stDw (dst : Reg) (off : Off) (imm : Imm) -- ST_DW, R292
  | stxW (dst : Reg) (src : Reg) (off : Off) -- STX_W, R293
  | stxH (dst : Reg) (src : Reg) (off : Off) -- STX_H, R294
  | stxB (dst : Reg) (src : Reg) (off : Off) -- STX_B, R295
  | stxDw (dst : Reg) (src : Reg) (off : Off) -- STX_DW, R296
  -- Atomic operations (spec/44_atomic.md)
  | atomicAddW (dst : Reg) (src : Reg) (off : Off) -- ATOMIC_ADD_W, R307
  | atomicOrW (dst : Reg) (src : Reg) (off : Off) -- ATOMIC_OR_W, R308
  | atomicAndW (dst : Reg) (src : Reg) (off : Off) -- ATOMIC_AND_W, R309
  | atomicXorW (dst : Reg) (src : Reg) (off : Off) -- ATOMIC_XOR_W, R310
  | atomicFetchAddW (dst : Reg) (src : Dst) (off : Off) -- ATOMIC_FETCH_ADD_W, R311
  | atomicFetchOrW (dst : Reg) (src : Dst) (off : Off) -- ATOMIC_FETCH_OR_W, R312
  | atomicFetchAndW (dst : Reg) (src : Dst) (off : Off) -- ATOMIC_FETCH_AND_W, R313
  | atomicFetchXorW (dst : Reg) (src : Dst) (off : Off) -- ATOMIC_FETCH_XOR_W, R314
  | atomicXchgW (dst : Reg) (src : Dst) (off : Off) -- ATOMIC_XCHG_W, R315
  | atomicCmpxchgW (dst : Reg) (src : Reg) (off : Off) -- ATOMIC_CMPXCHG_W, R316
  | atomicAddDw (dst : Reg) (src : Reg) (off : Off) -- ATOMIC_ADD_DW, R317
  | atomicOrDw (dst : Reg) (src : Reg) (off : Off) -- ATOMIC_OR_DW, R318
  | atomicAndDw (dst : Reg) (src : Reg) (off : Off) -- ATOMIC_AND_DW, R319
  | atomicXorDw (dst : Reg) (src : Reg) (off : Off) -- ATOMIC_XOR_DW, R320
  | atomicFetchAddDw (dst : Reg) (src : Dst) (off : Off) -- ATOMIC_FETCH_ADD_DW, R321
  | atomicFetchOrDw (dst : Reg) (src : Dst) (off : Off) -- ATOMIC_FETCH_OR_DW, R322
  | atomicFetchAndDw (dst : Reg) (src : Dst) (off : Off) -- ATOMIC_FETCH_AND_DW, R323
  | atomicFetchXorDw (dst : Reg) (src : Dst) (off : Off) -- ATOMIC_FETCH_XOR_DW, R324
  | atomicXchgDw (dst : Reg) (src : Dst) (off : Off) -- ATOMIC_XCHG_DW, R325
  | atomicCmpxchgDw (dst : Reg) (src : Reg) (off : Off) -- ATOMIC_CMPXCHG_DW, R326
  -- 64-bit immediate (spec/45_imm64.md)
  | ldImm64 (dst : Dst) (imm : Imm) (nextImm : Imm) -- LD_IMM64, R334
  | ldMapFd (dst : Dst) (imm : Imm) -- LD_MAP_FD, R335
  | ldMapValueFd (dst : Dst) (imm : Imm) (nextImm : Imm) -- LD_MAP_VALUE_FD, R336
  | ldVarAddr (dst : Dst) (imm : Imm) -- LD_VAR_ADDR, R337
  | ldCodeAddr (dst : Dst) (imm : Imm) -- LD_CODE_ADDR, R338
  | ldMapIdx (dst : Dst) (imm : Imm) -- LD_MAP_IDX, R339
  | ldMapValueIdx (dst : Dst) (imm : Imm) (nextImm : Imm) -- LD_MAP_VALUE_IDX, R340
deriving DecidableEq, Repr

end Sys2Proof
end

