-- ==== Sys2Proof/WellFormed.lean ====
section
/-! DEFINITION. Which instructions a variant of the machine can encode. The register ranges of spec/10_state.md R22
and R23 hold by the types of spec's operands (`Dst`, `Reg`); what is left depends on the variant's parameters. -/

namespace Sys2Proof

/-- Whether a displacement fits the signed 16-bit `offset` field (spec/30_encoding.md R93). -/
def fitsOffset (disp : BitVec 32) : Bool := (disp.truncate 16).signExtend 32 == disp

/-- Whether the variant has an encoding of this instruction. Two parameters matter: under `LOCAL_CALL_FIELD` =
offset a local call's displacement has 16 bits (spec/42_jump.md R263); under `NEG_OPERAND` = dst the K forms of
BPF_NEG have a zero `imm` and the X forms do not exist (spec/40_alu.md R146). -/
def Instr.wellFormed (v : Variant) : Instr → Bool
  | .callLocal disp =>
    match v.localCallField with
    | .offset => fitsOffset disp
    | .imm => true
  | .neg32K _ imm | .neg64K _ imm =>
    match v.negOperand with
    | .src => true
    | .dst => imm == 0
  | .neg32X _ _ | .neg64X _ _ => v.negOperand == .src
  | .add32K _ _ => true
  | .add32X _ _ => true
  | .add64K _ _ => true
  | .add64X _ _ => true
  | .sub32K _ _ => true
  | .sub32X _ _ => true
  | .sub64K _ _ => true
  | .sub64X _ _ => true
  | .mul32K _ _ => true
  | .mul32X _ _ => true
  | .mul64K _ _ => true
  | .mul64X _ _ => true
  | .div32K _ _ => true
  | .div32X _ _ => true
  | .div64K _ _ => true
  | .div64X _ _ => true
  | .or32K _ _ => true
  | .or32X _ _ => true
  | .or64K _ _ => true
  | .or64X _ _ => true
  | .and32K _ _ => true
  | .and32X _ _ => true
  | .and64K _ _ => true
  | .and64X _ _ => true
  | .lsh32K _ _ => true
  | .lsh32X _ _ => true
  | .lsh64K _ _ => true
  | .lsh64X _ _ => true
  | .rsh32K _ _ => true
  | .rsh32X _ _ => true
  | .rsh64K _ _ => true
  | .rsh64X _ _ => true
  | .mod32K _ _ => true
  | .mod32X _ _ => true
  | .mod64K _ _ => true
  | .mod64X _ _ => true
  | .xor32K _ _ => true
  | .xor32X _ _ => true
  | .xor64K _ _ => true
  | .xor64X _ _ => true
  | .mov32K _ _ => true
  | .mov32X _ _ => true
  | .mov64K _ _ => true
  | .mov64X _ _ => true
  | .arsh32K _ _ => true
  | .arsh32X _ _ => true
  | .arsh64K _ _ => true
  | .arsh64X _ _ => true
  | .le16 _ => true
  | .le32 _ => true
  | .le64 _ => true
  | .be16 _ => true
  | .be32 _ => true
  | .be64 _ => true
  | .jeq64K _ _ _ => true
  | .jeq64X _ _ _ => true
  | .jeq32K _ _ _ => true
  | .jeq32X _ _ _ => true
  | .jgt64K _ _ _ => true
  | .jgt64X _ _ _ => true
  | .jgt32K _ _ _ => true
  | .jgt32X _ _ _ => true
  | .jge64K _ _ _ => true
  | .jge64X _ _ _ => true
  | .jge32K _ _ _ => true
  | .jge32X _ _ _ => true
  | .jset64K _ _ _ => true
  | .jset64X _ _ _ => true
  | .jset32K _ _ _ => true
  | .jset32X _ _ _ => true
  | .jne64K _ _ _ => true
  | .jne64X _ _ _ => true
  | .jne32K _ _ _ => true
  | .jne32X _ _ _ => true
  | .jsgt64K _ _ _ => true
  | .jsgt64X _ _ _ => true
  | .jsgt32K _ _ _ => true
  | .jsgt32X _ _ _ => true
  | .jsge64K _ _ _ => true
  | .jsge64X _ _ _ => true
  | .jsge32K _ _ _ => true
  | .jsge32X _ _ _ => true
  | .jlt64K _ _ _ => true
  | .jlt64X _ _ _ => true
  | .jlt32K _ _ _ => true
  | .jlt32X _ _ _ => true
  | .jle64K _ _ _ => true
  | .jle64X _ _ _ => true
  | .jle32K _ _ _ => true
  | .jle32X _ _ _ => true
  | .jslt64K _ _ _ => true
  | .jslt64X _ _ _ => true
  | .jslt32K _ _ _ => true
  | .jslt32X _ _ _ => true
  | .jsle64K _ _ _ => true
  | .jsle64X _ _ _ => true
  | .jsle32K _ _ _ => true
  | .jsle32X _ _ _ => true
  | .ja _ => true
  | .callHelper _ => true
  | .callBtf _ => true
  | .exit => true
  | .ldxW _ _ _ => true
  | .ldxH _ _ _ => true
  | .ldxB _ _ _ => true
  | .ldxDw _ _ _ => true
  | .stW _ _ _ => true
  | .stH _ _ _ => true
  | .stB _ _ _ => true
  | .stDw _ _ _ => true
  | .stxW _ _ _ => true
  | .stxH _ _ _ => true
  | .stxB _ _ _ => true
  | .stxDw _ _ _ => true
  | .atomicAddW _ _ _ => true
  | .atomicOrW _ _ _ => true
  | .atomicAndW _ _ _ => true
  | .atomicXorW _ _ _ => true
  | .atomicFetchAddW _ _ _ => true
  | .atomicFetchOrW _ _ _ => true
  | .atomicFetchAndW _ _ _ => true
  | .atomicFetchXorW _ _ _ => true
  | .atomicXchgW _ _ _ => true
  | .atomicCmpxchgW _ _ _ => true
  | .atomicAddDw _ _ _ => true
  | .atomicOrDw _ _ _ => true
  | .atomicAndDw _ _ _ => true
  | .atomicXorDw _ _ _ => true
  | .atomicFetchAddDw _ _ _ => true
  | .atomicFetchOrDw _ _ _ => true
  | .atomicFetchAndDw _ _ _ => true
  | .atomicFetchXorDw _ _ _ => true
  | .atomicXchgDw _ _ _ => true
  | .atomicCmpxchgDw _ _ _ => true
  | .ldImm64 _ _ _ => true
  | .ldMapFd _ _ => true
  | .ldMapValueFd _ _ _ => true
  | .ldVarAddr _ _ => true
  | .ldCodeAddr _ _ => true
  | .ldMapIdx _ _ => true
  | .ldMapValueIdx _ _ _ => true

/-- How many slots the instruction occupies (spec/30_encoding.md R98): two for the wide encoding, one otherwise. -/
def Instr.slots : Instr → Nat
  | .add32K _ _ => 1
  | .add32X _ _ => 1
  | .add64K _ _ => 1
  | .add64X _ _ => 1
  | .sub32K _ _ => 1
  | .sub32X _ _ => 1
  | .sub64K _ _ => 1
  | .sub64X _ _ => 1
  | .mul32K _ _ => 1
  | .mul32X _ _ => 1
  | .mul64K _ _ => 1
  | .mul64X _ _ => 1
  | .div32K _ _ => 1
  | .div32X _ _ => 1
  | .div64K _ _ => 1
  | .div64X _ _ => 1
  | .or32K _ _ => 1
  | .or32X _ _ => 1
  | .or64K _ _ => 1
  | .or64X _ _ => 1
  | .and32K _ _ => 1
  | .and32X _ _ => 1
  | .and64K _ _ => 1
  | .and64X _ _ => 1
  | .lsh32K _ _ => 1
  | .lsh32X _ _ => 1
  | .lsh64K _ _ => 1
  | .lsh64X _ _ => 1
  | .rsh32K _ _ => 1
  | .rsh32X _ _ => 1
  | .rsh64K _ _ => 1
  | .rsh64X _ _ => 1
  | .neg32K _ _ => 1
  | .neg32X _ _ => 1
  | .neg64K _ _ => 1
  | .neg64X _ _ => 1
  | .mod32K _ _ => 1
  | .mod32X _ _ => 1
  | .mod64K _ _ => 1
  | .mod64X _ _ => 1
  | .xor32K _ _ => 1
  | .xor32X _ _ => 1
  | .xor64K _ _ => 1
  | .xor64X _ _ => 1
  | .mov32K _ _ => 1
  | .mov32X _ _ => 1
  | .mov64K _ _ => 1
  | .mov64X _ _ => 1
  | .arsh32K _ _ => 1
  | .arsh32X _ _ => 1
  | .arsh64K _ _ => 1
  | .arsh64X _ _ => 1
  | .le16 _ => 1
  | .le32 _ => 1
  | .le64 _ => 1
  | .be16 _ => 1
  | .be32 _ => 1
  | .be64 _ => 1
  | .jeq64K _ _ _ => 1
  | .jeq64X _ _ _ => 1
  | .jeq32K _ _ _ => 1
  | .jeq32X _ _ _ => 1
  | .jgt64K _ _ _ => 1
  | .jgt64X _ _ _ => 1
  | .jgt32K _ _ _ => 1
  | .jgt32X _ _ _ => 1
  | .jge64K _ _ _ => 1
  | .jge64X _ _ _ => 1
  | .jge32K _ _ _ => 1
  | .jge32X _ _ _ => 1
  | .jset64K _ _ _ => 1
  | .jset64X _ _ _ => 1
  | .jset32K _ _ _ => 1
  | .jset32X _ _ _ => 1
  | .jne64K _ _ _ => 1
  | .jne64X _ _ _ => 1
  | .jne32K _ _ _ => 1
  | .jne32X _ _ _ => 1
  | .jsgt64K _ _ _ => 1
  | .jsgt64X _ _ _ => 1
  | .jsgt32K _ _ _ => 1
  | .jsgt32X _ _ _ => 1
  | .jsge64K _ _ _ => 1
  | .jsge64X _ _ _ => 1
  | .jsge32K _ _ _ => 1
  | .jsge32X _ _ _ => 1
  | .jlt64K _ _ _ => 1
  | .jlt64X _ _ _ => 1
  | .jlt32K _ _ _ => 1
  | .jlt32X _ _ _ => 1
  | .jle64K _ _ _ => 1
  | .jle64X _ _ _ => 1
  | .jle32K _ _ _ => 1
  | .jle32X _ _ _ => 1
  | .jslt64K _ _ _ => 1
  | .jslt64X _ _ _ => 1
  | .jslt32K _ _ _ => 1
  | .jslt32X _ _ _ => 1
  | .jsle64K _ _ _ => 1
  | .jsle64X _ _ _ => 1
  | .jsle32K _ _ _ => 1
  | .jsle32X _ _ _ => 1
  | .ja _ => 1
  | .callHelper _ => 1
  | .callLocal _ => 1
  | .callBtf _ => 1
  | .exit => 1
  | .ldxW _ _ _ => 1
  | .ldxH _ _ _ => 1
  | .ldxB _ _ _ => 1
  | .ldxDw _ _ _ => 1
  | .stW _ _ _ => 1
  | .stH _ _ _ => 1
  | .stB _ _ _ => 1
  | .stDw _ _ _ => 1
  | .stxW _ _ _ => 1
  | .stxH _ _ _ => 1
  | .stxB _ _ _ => 1
  | .stxDw _ _ _ => 1
  | .atomicAddW _ _ _ => 1
  | .atomicOrW _ _ _ => 1
  | .atomicAndW _ _ _ => 1
  | .atomicXorW _ _ _ => 1
  | .atomicFetchAddW _ _ _ => 1
  | .atomicFetchOrW _ _ _ => 1
  | .atomicFetchAndW _ _ _ => 1
  | .atomicFetchXorW _ _ _ => 1
  | .atomicXchgW _ _ _ => 1
  | .atomicCmpxchgW _ _ _ => 1
  | .atomicAddDw _ _ _ => 1
  | .atomicOrDw _ _ _ => 1
  | .atomicAndDw _ _ _ => 1
  | .atomicXorDw _ _ _ => 1
  | .atomicFetchAddDw _ _ _ => 1
  | .atomicFetchOrDw _ _ _ => 1
  | .atomicFetchAndDw _ _ _ => 1
  | .atomicFetchXorDw _ _ _ => 1
  | .atomicXchgDw _ _ _ => 1
  | .atomicCmpxchgDw _ _ _ => 1
  | .ldImm64 _ _ _ => 2
  | .ldMapFd _ _ => 2
  | .ldMapValueFd _ _ _ => 2
  | .ldVarAddr _ _ => 2
  | .ldCodeAddr _ _ => 2
  | .ldMapIdx _ _ => 2
  | .ldMapValueIdx _ _ _ => 2

end Sys2Proof
end

