-- ==== Sys2Proof/Decode.lean ====
section
/-! DEFINITION. From the bytes of a program to instructions and back (spec/30_encoding.md). Decoding is total:
every list of bytes is an instruction with the bytes after it, or is rejected by name. -/

namespace Sys2Proof

/-! ## The five fields -/

/-- The fields of a slot (R93, R95), as their patterns. -/
structure Fields where
  opcode : BitVec 8
  dst : BitVec 4
  src : BitVec 4
  offset : BitVec 16
  imm : BitVec 32
deriving DecidableEq, Repr

/-- The fields of eight bytes at increasing addresses: R91 in little-endian BPF, R92 in big-endian BPF. -/
def Fields.ofBytes (e : Endian) (b0 b1 b2 b3 b4 b5 b6 b7 : Byte) : Fields :=
  match e with
  | .little =>
    { opcode := b0, dst := b1.extractLsb' 0 4, src := b1.extractLsb' 4 4
      offset := b3 ++ b2, imm := b7 ++ b6 ++ b5 ++ b4 }
  | .big =>
    { opcode := b0, dst := b1.extractLsb' 4 4, src := b1.extractLsb' 0 4
      offset := b2 ++ b3, imm := b4 ++ b5 ++ b6 ++ b7 }

/-- The eight bytes that hold these fields, in increasing address (R91, R92). -/
def Fields.bytes (e : Endian) (f : Fields) : List Byte :=
  let o0 := f.offset.extractLsb' 0 8
  let o1 := f.offset.extractLsb' 8 8
  let i0 := f.imm.extractLsb' 0 8
  let i1 := f.imm.extractLsb' 8 8
  let i2 := f.imm.extractLsb' 16 8
  let i3 := f.imm.extractLsb' 24 8
  match e with
  | .little => [f.opcode, f.src ++ f.dst, o0, o1, i0, i1, i2, i3]
  | .big => [f.opcode, f.dst ++ f.src, o1, o0, i3, i2, i1, i0]

/-- The canonical word `W` of R95. -/
def Fields.word (f : Fields) : BitVec 64 := f.imm ++ f.offset ++ f.src ++ f.dst ++ f.opcode

/-- The fields packed in a canonical word (R95). -/
def Fields.ofWord (w : BitVec 64) : Fields :=
  { opcode := w.extractLsb' 0 8, dst := w.extractLsb' 8 4, src := w.extractLsb' 12 4
    offset := w.extractLsb' 16 16, imm := w.extractLsb' 32 32 }

/-- The fields of the first slot of some bytes, and the bytes after it; `none` if there are fewer than eight. -/
def slotFields (e : Endian) : List Byte → Option (Fields × List Byte)
  | b0 :: b1 :: b2 :: b3 :: b4 :: b5 :: b6 :: b7 :: rest =>
    some (Fields.ofBytes e b0 b1 b2 b3 b4 b5 b6 b7, rest)
  | _ => none

/-! ## Slots of a program as bytes -/

/-- The eight bytes of a slot, the one at the lowest address first. -/
def slotBytes (w : Slot) : List Byte :=
  [w.extractLsb' 0 8, w.extractLsb' 8 8, w.extractLsb' 16 8, w.extractLsb' 24 8,
   w.extractLsb' 32 8, w.extractLsb' 40 8, w.extractLsb' 48 8, w.extractLsb' 56 8]

/-- The slot made of these bytes, the first at the lowest address. -/
def slotOfBytes : List Byte → Slot
  | [] => 0
  | b :: bs => b.setWidth 64 ||| (slotOfBytes bs <<< 8)

/-! ## Rejections -/

/-- The fields that may have to be zero (R96, R111 item 1). -/
inductive FieldName where
  | dstReg
  | srcReg
  | offset
  | imm
  | nextImm
deriving DecidableEq, Repr

/-- Why some bytes are no instruction. `truncated` is a fetch fault (R98, R363); all the others are reserved
encodings (R110, R111, R362). -/
inductive DecodeError where
  /-- There is no whole slot here, or no second slot after opcode 0x18 (R98). -/
  | truncated
  /-- One of the opcodes with no meaning (R110). -/
  | reservedOpcode (opcode : BitVec 8)
  /-- A field the instruction does not use is not zero (R111 item 1). -/
  | unusedField (name : FieldName)
  /-- A register number above 10 (R111 item 2). -/
  | noSuchRegister (n : BitVec 4)
  /-- The register the instruction would write is R10 (R111 item 3). -/
  | writesR10
  /-- A byte swap of a width other than 16, 32, 64 (R111 item 4). -/
  | reservedSwapWidth (imm : Imm)
  /-- An atomic operation not in R109 (R111 item 5). -/
  | reservedAtomic (imm : Imm)
  /-- A call kind above 2 (R111 item 6). -/
  | reservedCallKind (n : BitVec 4)
  /-- A 64-bit immediate subtype above 6 (R111 item 7). -/
  | reservedSubtype (n : BitVec 4)
  /-- A second slot whose opcode, register byte or offset is not zero (R111 item 7). -/
  | secondSlotNotZero
deriving DecidableEq, Repr

/-- A decoding, or the reason there is none. -/
abbrev Decoded (α : Type) := Except DecodeError α

/-! ## The checks of R111 -/

/-- A register number that is only read: 0 to 10 (R23). -/
def decodeReg (n : BitVec 4) : Decoded Reg :=
  if h : n.toNat < 11 then .ok ⟨n.toNat, h⟩ else .error (.noSuchRegister n)

/-- A register number that is written: 0 to 9 (R22, R23). -/
def decodeDst (n : BitVec 4) : Decoded Dst :=
  if h : n.toNat < 10 then .ok ⟨n.toNat, h⟩
  else if n = 10 then .error .writesR10
  else .error (.noSuchRegister n)

/-- An unused field must be zero (R96). -/
def requireZero (name : FieldName) {n : Nat} (x : BitVec n) : Decoded Unit :=
  if x = 0 then .ok () else .error (.unusedField name)

/-! ## One decoder per shape of operands (R111 item 1) -/

/-- Arithmetic with BPF_K: `src_reg` and `offset` unused. -/
def decodeAluK (mk : Dst → Imm → Instr) (f : Fields) : Decoded Instr := do
  requireZero .srcReg f.src
  requireZero .offset f.offset
  return mk (← decodeDst f.dst) f.imm

/-- Arithmetic with BPF_X: `offset` and `imm` unused. -/
def decodeAluX (mk : Dst → Reg → Instr) (f : Fields) : Decoded Instr := do
  requireZero .offset f.offset
  requireZero .imm f.imm
  return mk (← decodeDst f.dst) (← decodeReg f.src)

/-- BPF_NEG with BPF_K (spec/40_alu.md R146): under `NEG_OPERAND` = dst `imm` is unused too. -/
def decodeNegK (v : Variant) (mk : Dst → Imm → Instr) (f : Fields) : Decoded Instr := do
  if v.negOperand = .dst then requireZero .imm f.imm
  decodeAluK mk f

/-- BPF_NEG with BPF_X (R146): under `NEG_OPERAND` = dst the opcode is reserved. -/
def decodeNegX (v : Variant) (mk : Dst → Reg → Instr) (f : Fields) : Decoded Instr :=
  if v.negOperand = .dst then .error (.reservedOpcode f.opcode) else decodeAluX mk f

/-- Byte swap (spec/41_byteswap.md R200, R208): `imm` selects the width; `src_reg` and `offset` unused. -/
def decodeSwap (mk16 mk32 mk64 : Dst → Instr) (f : Fields) : Decoded Instr := do
  requireZero .srcReg f.src
  requireZero .offset f.offset
  match f.imm.toNat with
  | 16 => return mk16 (← decodeDst f.dst)
  | 32 => return mk32 (← decodeDst f.dst)
  | 64 => return mk64 (← decodeDst f.dst)
  | _ => .error (.reservedSwapWidth f.imm)

/-- JA (spec/42_jump.md R217): only `offset` used. -/
def decodeJa (f : Fields) : Decoded Instr := do
  requireZero .dstReg f.dst
  requireZero .srcReg f.src
  requireZero .imm f.imm
  return .ja f.offset

/-- Conditional jump with BPF_K: `src_reg` unused (R216). -/
def decodeJumpK (mk : Reg → Imm → Off → Instr) (f : Fields) : Decoded Instr := do
  requireZero .srcReg f.src
  return mk (← decodeReg f.dst) f.imm f.offset

/-- Conditional jump with BPF_X: `imm` unused (R216). -/
def decodeJumpX (mk : Reg → Reg → Off → Instr) (f : Fields) : Decoded Instr := do
  requireZero .imm f.imm
  return mk (← decodeReg f.dst) (← decodeReg f.src) f.offset

/-- Calls (R262 to R264, R271): `src_reg` is the kind. A local call's displacement is in `LOCAL_CALL_FIELD`,
and the other field is unused. -/
def decodeCall (v : Variant) (f : Fields) : Decoded Instr := do
  requireZero .dstReg f.dst
  match f.src.toNat with
  | 0 =>
    requireZero .offset f.offset
    return .callHelper f.imm
  | 1 =>
    match v.localCallField with
    | .offset =>
      requireZero .imm f.imm
      return .callLocal (f.offset.signExtend 32)
    | .imm =>
      requireZero .offset f.offset
      return .callLocal f.imm
  | 2 =>
    requireZero .offset f.offset
    return .callBtf f.imm
  | _ => .error (.reservedCallKind f.src)

/-- EXIT (R265): every other field unused. -/
def decodeExit (f : Fields) : Decoded Instr := do
  requireZero .dstReg f.dst
  requireZero .srcReg f.src
  requireZero .offset f.offset
  requireZero .imm f.imm
  return .exit

/-- LDX (spec/43_load_store.md R285): `imm` unused. -/
def decodeLdx (mk : Dst → Reg → Off → Instr) (f : Fields) : Decoded Instr := do
  requireZero .imm f.imm
  return mk (← decodeDst f.dst) (← decodeReg f.src) f.offset

/-- ST (R289): `src_reg` unused. -/
def decodeSt (mk : Reg → Off → Imm → Instr) (f : Fields) : Decoded Instr := do
  requireZero .srcReg f.src
  return mk (← decodeReg f.dst) f.offset f.imm

/-- STX (R293): `imm` unused. -/
def decodeStx (mk : Reg → Reg → Off → Instr) (f : Fields) : Decoded Instr := do
  requireZero .imm f.imm
  return mk (← decodeReg f.dst) (← decodeReg f.src) f.offset

/-- An atomic operation that writes no register its fields name (spec/44_atomic.md R302, R305). -/
def decodeAtomic (mk : Reg → Reg → Off → Instr) (f : Fields) : Decoded Instr := do
  return mk (← decodeReg f.dst) (← decodeReg f.src) f.offset

/-- An atomic operation that writes the register `src_reg` names (R303, R304). -/
def decodeAtomicFetch (mk : Reg → Dst → Off → Instr) (f : Fields) : Decoded Instr := do
  return mk (← decodeReg f.dst) (← decodeDst f.src) f.offset

/-- The 4-byte atomic operations, selected by all 32 bits of `imm` (R109, R301). -/
def decodeAtomicW (f : Fields) : Decoded Instr :=
  match f.imm.toNat with
  | 0x00 => decodeAtomic .atomicAddW f
  | 0x40 => decodeAtomic .atomicOrW f
  | 0x50 => decodeAtomic .atomicAndW f
  | 0xa0 => decodeAtomic .atomicXorW f
  | 0x01 => decodeAtomicFetch .atomicFetchAddW f
  | 0x41 => decodeAtomicFetch .atomicFetchOrW f
  | 0x51 => decodeAtomicFetch .atomicFetchAndW f
  | 0xa1 => decodeAtomicFetch .atomicFetchXorW f
  | 0xe1 => decodeAtomicFetch .atomicXchgW f
  | 0xf1 => decodeAtomic .atomicCmpxchgW f
  | _ => .error (.reservedAtomic f.imm)

/-- The 8-byte atomic operations, selected by all 32 bits of `imm` (R109, R301). -/
def decodeAtomicDW (f : Fields) : Decoded Instr :=
  match f.imm.toNat with
  | 0x00 => decodeAtomic .atomicAddDw f
  | 0x40 => decodeAtomic .atomicOrDw f
  | 0x50 => decodeAtomic .atomicAndDw f
  | 0xa0 => decodeAtomic .atomicXorDw f
  | 0x01 => decodeAtomicFetch .atomicFetchAddDw f
  | 0x41 => decodeAtomicFetch .atomicFetchOrDw f
  | 0x51 => decodeAtomicFetch .atomicFetchAndDw f
  | 0xa1 => decodeAtomicFetch .atomicFetchXorDw f
  | 0xe1 => decodeAtomicFetch .atomicXchgDw f
  | 0xf1 => decodeAtomic .atomicCmpxchgDw f
  | _ => .error (.reservedAtomic f.imm)

/-! ## The opcode map (R106 to R110, R116) -/

/-- The instruction of one slot whose opcode is not 0x18. -/
def decodeBasic (v : Variant) (f : Fields) : Decoded Instr :=
  match f.opcode.toNat with
  | 0x04 => decodeAluK .add32K f
  | 0x05 => decodeJa f
  | 0x07 => decodeAluK .add64K f
  | 0x0c => decodeAluX .add32X f
  | 0x0f => decodeAluX .add64X f
  | 0x14 => decodeAluK .sub32K f
  | 0x15 => decodeJumpK .jeq64K f
  | 0x16 => decodeJumpK .jeq32K f
  | 0x17 => decodeAluK .sub64K f
  | 0x1c => decodeAluX .sub32X f
  | 0x1d => decodeJumpX .jeq64X f
  | 0x1e => decodeJumpX .jeq32X f
  | 0x1f => decodeAluX .sub64X f
  | 0x24 => decodeAluK .mul32K f
  | 0x25 => decodeJumpK .jgt64K f
  | 0x26 => decodeJumpK .jgt32K f
  | 0x27 => decodeAluK .mul64K f
  | 0x2c => decodeAluX .mul32X f
  | 0x2d => decodeJumpX .jgt64X f
  | 0x2e => decodeJumpX .jgt32X f
  | 0x2f => decodeAluX .mul64X f
  | 0x34 => decodeAluK .div32K f
  | 0x35 => decodeJumpK .jge64K f
  | 0x36 => decodeJumpK .jge32K f
  | 0x37 => decodeAluK .div64K f
  | 0x3c => decodeAluX .div32X f
  | 0x3d => decodeJumpX .jge64X f
  | 0x3e => decodeJumpX .jge32X f
  | 0x3f => decodeAluX .div64X f
  | 0x44 => decodeAluK .or32K f
  | 0x45 => decodeJumpK .jset64K f
  | 0x46 => decodeJumpK .jset32K f
  | 0x47 => decodeAluK .or64K f
  | 0x4c => decodeAluX .or32X f
  | 0x4d => decodeJumpX .jset64X f
  | 0x4e => decodeJumpX .jset32X f
  | 0x4f => decodeAluX .or64X f
  | 0x54 => decodeAluK .and32K f
  | 0x55 => decodeJumpK .jne64K f
  | 0x56 => decodeJumpK .jne32K f
  | 0x57 => decodeAluK .and64K f
  | 0x5c => decodeAluX .and32X f
  | 0x5d => decodeJumpX .jne64X f
  | 0x5e => decodeJumpX .jne32X f
  | 0x5f => decodeAluX .and64X f
  | 0x61 => decodeLdx .ldxW f
  | 0x62 => decodeSt .stW f
  | 0x63 => decodeStx .stxW f
  | 0x64 => decodeAluK .lsh32K f
  | 0x65 => decodeJumpK .jsgt64K f
  | 0x66 => decodeJumpK .jsgt32K f
  | 0x67 => decodeAluK .lsh64K f
  | 0x69 => decodeLdx .ldxH f
  | 0x6a => decodeSt .stH f
  | 0x6b => decodeStx .stxH f
  | 0x6c => decodeAluX .lsh32X f
  | 0x6d => decodeJumpX .jsgt64X f
  | 0x6e => decodeJumpX .jsgt32X f
  | 0x6f => decodeAluX .lsh64X f
  | 0x71 => decodeLdx .ldxB f
  | 0x72 => decodeSt .stB f
  | 0x73 => decodeStx .stxB f
  | 0x74 => decodeAluK .rsh32K f
  | 0x75 => decodeJumpK .jsge64K f
  | 0x76 => decodeJumpK .jsge32K f
  | 0x77 => decodeAluK .rsh64K f
  | 0x79 => decodeLdx .ldxDw f
  | 0x7a => decodeSt .stDw f
  | 0x7b => decodeStx .stxDw f
  | 0x7c => decodeAluX .rsh32X f
  | 0x7d => decodeJumpX .jsge64X f
  | 0x7e => decodeJumpX .jsge32X f
  | 0x7f => decodeAluX .rsh64X f
  | 0x84 => decodeNegK v .neg32K f
  | 0x85 => decodeCall v f
  | 0x87 => decodeNegK v .neg64K f
  | 0x8c => decodeNegX v .neg32X f
  | 0x8f => decodeNegX v .neg64X f
  | 0x94 => decodeAluK .mod32K f
  | 0x95 => decodeExit f
  | 0x97 => decodeAluK .mod64K f
  | 0x9c => decodeAluX .mod32X f
  | 0x9f => decodeAluX .mod64X f
  | 0xa4 => decodeAluK .xor32K f
  | 0xa5 => decodeJumpK .jlt64K f
  | 0xa6 => decodeJumpK .jlt32K f
  | 0xa7 => decodeAluK .xor64K f
  | 0xac => decodeAluX .xor32X f
  | 0xad => decodeJumpX .jlt64X f
  | 0xae => decodeJumpX .jlt32X f
  | 0xaf => decodeAluX .xor64X f
  | 0xb4 => decodeAluK .mov32K f
  | 0xb5 => decodeJumpK .jle64K f
  | 0xb6 => decodeJumpK .jle32K f
  | 0xb7 => decodeAluK .mov64K f
  | 0xbc => decodeAluX .mov32X f
  | 0xbd => decodeJumpX .jle64X f
  | 0xbe => decodeJumpX .jle32X f
  | 0xbf => decodeAluX .mov64X f
  | 0xc3 => decodeAtomicW f
  | 0xc4 => decodeAluK .arsh32K f
  | 0xc5 => decodeJumpK .jslt64K f
  | 0xc6 => decodeJumpK .jslt32K f
  | 0xc7 => decodeAluK .arsh64K f
  | 0xcc => decodeAluX .arsh32X f
  | 0xcd => decodeJumpX .jslt64X f
  | 0xce => decodeJumpX .jslt32X f
  | 0xcf => decodeAluX .arsh64X f
  | 0xd4 => decodeSwap .le16 .le32 .le64 f
  | 0xd5 => decodeJumpK .jsle64K f
  | 0xd6 => decodeJumpK .jsle32K f
  | 0xdb => decodeAtomicDW f
  | 0xdc => decodeSwap .be16 .be32 .be64 f
  | 0xdd => decodeJumpX .jsle64X f
  | 0xde => decodeJumpX .jsle32X f
  | _ => .error (.reservedOpcode f.opcode)

/-- A 64-bit immediate instruction that uses `next_imm` or not (spec/45_imm64.md R331). -/
def decodeWide (f g : Fields) : Decoded Instr := do
  requireZero .offset f.offset
  if g.opcode = 0 ∧ g.dst = 0 ∧ g.src = 0 ∧ g.offset = 0 then pure () else .error .secondSlotNotZero
  match f.src.toNat with
  | 0 => return .ldImm64 (← decodeDst f.dst) f.imm g.imm
  | 1 =>
    requireZero .nextImm g.imm
    return .ldMapFd (← decodeDst f.dst) f.imm
  | 2 => return .ldMapValueFd (← decodeDst f.dst) f.imm g.imm
  | 3 =>
    requireZero .nextImm g.imm
    return .ldVarAddr (← decodeDst f.dst) f.imm
  | 4 =>
    requireZero .nextImm g.imm
    return .ldCodeAddr (← decodeDst f.dst) f.imm
  | 5 =>
    requireZero .nextImm g.imm
    return .ldMapIdx (← decodeDst f.dst) f.imm
  | 6 => return .ldMapValueIdx (← decodeDst f.dst) f.imm g.imm
  | _ => .error (.reservedSubtype f.src)

/-- The instruction at the head of some bytes, and the bytes after it (R98, R115 steps 2 to 5). -/
def decode (v : Variant) (bytes : List Byte) : Decoded (Instr × List Byte) :=
  match slotFields v.endian bytes with
  | none => .error .truncated
  | some (f, rest) =>
    if f.opcode = 0x18 then
      match slotFields v.endian rest with
      | none => .error .truncated
      | some (g, rest') => (decodeWide f g).map fun i => (i, rest')
    else (decodeBasic v f).map fun i => (i, rest)

/-! ## The encoder -/

/-- A register's 4-bit field (R93). -/
def regField {n : Nat} (r : Fin n) : BitVec 4 := BitVec.ofNat 4 r.val

/-- The fields of an instruction's first slot (R106 to R109). -/
def Instr.fields (v : Variant) : Instr → Fields
  | .add32K dst imm => ⟨0x04, regField dst, 0, 0, imm⟩
  | .add32X dst src => ⟨0x0c, regField dst, regField src, 0, 0⟩
  | .add64K dst imm => ⟨0x07, regField dst, 0, 0, imm⟩
  | .add64X dst src => ⟨0x0f, regField dst, regField src, 0, 0⟩
  | .sub32K dst imm => ⟨0x14, regField dst, 0, 0, imm⟩
  | .sub32X dst src => ⟨0x1c, regField dst, regField src, 0, 0⟩
  | .sub64K dst imm => ⟨0x17, regField dst, 0, 0, imm⟩
  | .sub64X dst src => ⟨0x1f, regField dst, regField src, 0, 0⟩
  | .mul32K dst imm => ⟨0x24, regField dst, 0, 0, imm⟩
  | .mul32X dst src => ⟨0x2c, regField dst, regField src, 0, 0⟩
  | .mul64K dst imm => ⟨0x27, regField dst, 0, 0, imm⟩
  | .mul64X dst src => ⟨0x2f, regField dst, regField src, 0, 0⟩
  | .div32K dst imm => ⟨0x34, regField dst, 0, 0, imm⟩
  | .div32X dst src => ⟨0x3c, regField dst, regField src, 0, 0⟩
  | .div64K dst imm => ⟨0x37, regField dst, 0, 0, imm⟩
  | .div64X dst src => ⟨0x3f, regField dst, regField src, 0, 0⟩
  | .or32K dst imm => ⟨0x44, regField dst, 0, 0, imm⟩
  | .or32X dst src => ⟨0x4c, regField dst, regField src, 0, 0⟩
  | .or64K dst imm => ⟨0x47, regField dst, 0, 0, imm⟩
  | .or64X dst src => ⟨0x4f, regField dst, regField src, 0, 0⟩
  | .and32K dst imm => ⟨0x54, regField dst, 0, 0, imm⟩
  | .and32X dst src => ⟨0x5c, regField dst, regField src, 0, 0⟩
  | .and64K dst imm => ⟨0x57, regField dst, 0, 0, imm⟩
  | .and64X dst src => ⟨0x5f, regField dst, regField src, 0, 0⟩
  | .lsh32K dst imm => ⟨0x64, regField dst, 0, 0, imm⟩
  | .lsh32X dst src => ⟨0x6c, regField dst, regField src, 0, 0⟩
  | .lsh64K dst imm => ⟨0x67, regField dst, 0, 0, imm⟩
  | .lsh64X dst src => ⟨0x6f, regField dst, regField src, 0, 0⟩
  | .rsh32K dst imm => ⟨0x74, regField dst, 0, 0, imm⟩
  | .rsh32X dst src => ⟨0x7c, regField dst, regField src, 0, 0⟩
  | .rsh64K dst imm => ⟨0x77, regField dst, 0, 0, imm⟩
  | .rsh64X dst src => ⟨0x7f, regField dst, regField src, 0, 0⟩
  | .neg32K dst imm => ⟨0x84, regField dst, 0, 0, imm⟩
  | .neg32X dst src => ⟨0x8c, regField dst, regField src, 0, 0⟩
  | .neg64K dst imm => ⟨0x87, regField dst, 0, 0, imm⟩
  | .neg64X dst src => ⟨0x8f, regField dst, regField src, 0, 0⟩
  | .mod32K dst imm => ⟨0x94, regField dst, 0, 0, imm⟩
  | .mod32X dst src => ⟨0x9c, regField dst, regField src, 0, 0⟩
  | .mod64K dst imm => ⟨0x97, regField dst, 0, 0, imm⟩
  | .mod64X dst src => ⟨0x9f, regField dst, regField src, 0, 0⟩
  | .xor32K dst imm => ⟨0xa4, regField dst, 0, 0, imm⟩
  | .xor32X dst src => ⟨0xac, regField dst, regField src, 0, 0⟩
  | .xor64K dst imm => ⟨0xa7, regField dst, 0, 0, imm⟩
  | .xor64X dst src => ⟨0xaf, regField dst, regField src, 0, 0⟩
  | .mov32K dst imm => ⟨0xb4, regField dst, 0, 0, imm⟩
  | .mov32X dst src => ⟨0xbc, regField dst, regField src, 0, 0⟩
  | .mov64K dst imm => ⟨0xb7, regField dst, 0, 0, imm⟩
  | .mov64X dst src => ⟨0xbf, regField dst, regField src, 0, 0⟩
  | .arsh32K dst imm => ⟨0xc4, regField dst, 0, 0, imm⟩
  | .arsh32X dst src => ⟨0xcc, regField dst, regField src, 0, 0⟩
  | .arsh64K dst imm => ⟨0xc7, regField dst, 0, 0, imm⟩
  | .arsh64X dst src => ⟨0xcf, regField dst, regField src, 0, 0⟩
  | .le16 dst => ⟨0xd4, regField dst, 0, 0, 16⟩
  | .le32 dst => ⟨0xd4, regField dst, 0, 0, 32⟩
  | .le64 dst => ⟨0xd4, regField dst, 0, 0, 64⟩
  | .be16 dst => ⟨0xdc, regField dst, 0, 0, 16⟩
  | .be32 dst => ⟨0xdc, regField dst, 0, 0, 32⟩
  | .be64 dst => ⟨0xdc, regField dst, 0, 0, 64⟩
  | .jeq64K dst imm off => ⟨0x15, regField dst, 0, off, imm⟩
  | .jeq64X dst src off => ⟨0x1d, regField dst, regField src, off, 0⟩
  | .jeq32K dst imm off => ⟨0x16, regField dst, 0, off, imm⟩
  | .jeq32X dst src off => ⟨0x1e, regField dst, regField src, off, 0⟩
  | .jgt64K dst imm off => ⟨0x25, regField dst, 0, off, imm⟩
  | .jgt64X dst src off => ⟨0x2d, regField dst, regField src, off, 0⟩
  | .jgt32K dst imm off => ⟨0x26, regField dst, 0, off, imm⟩
  | .jgt32X dst src off => ⟨0x2e, regField dst, regField src, off, 0⟩
  | .jge64K dst imm off => ⟨0x35, regField dst, 0, off, imm⟩
  | .jge64X dst src off => ⟨0x3d, regField dst, regField src, off, 0⟩
  | .jge32K dst imm off => ⟨0x36, regField dst, 0, off, imm⟩
  | .jge32X dst src off => ⟨0x3e, regField dst, regField src, off, 0⟩
  | .jset64K dst imm off => ⟨0x45, regField dst, 0, off, imm⟩
  | .jset64X dst src off => ⟨0x4d, regField dst, regField src, off, 0⟩
  | .jset32K dst imm off => ⟨0x46, regField dst, 0, off, imm⟩
  | .jset32X dst src off => ⟨0x4e, regField dst, regField src, off, 0⟩
  | .jne64K dst imm off => ⟨0x55, regField dst, 0, off, imm⟩
  | .jne64X dst src off => ⟨0x5d, regField dst, regField src, off, 0⟩
  | .jne32K dst imm off => ⟨0x56, regField dst, 0, off, imm⟩
  | .jne32X dst src off => ⟨0x5e, regField dst, regField src, off, 0⟩
  | .jsgt64K dst imm off => ⟨0x65, regField dst, 0, off, imm⟩
  | .jsgt64X dst src off => ⟨0x6d, regField dst, regField src, off, 0⟩
  | .jsgt32K dst imm off => ⟨0x66, regField dst, 0, off, imm⟩
  | .jsgt32X dst src off => ⟨0x6e, regField dst, regField src, off, 0⟩
  | .jsge64K dst imm off => ⟨0x75, regField dst, 0, off, imm⟩
  | .jsge64X dst src off => ⟨0x7d, regField dst, regField src, off, 0⟩
  | .jsge32K dst imm off => ⟨0x76, regField dst, 0, off, imm⟩
  | .jsge32X dst src off => ⟨0x7e, regField dst, regField src, off, 0⟩
  | .jlt64K dst imm off => ⟨0xa5, regField dst, 0, off, imm⟩
  | .jlt64X dst src off => ⟨0xad, regField dst, regField src, off, 0⟩
  | .jlt32K dst imm off => ⟨0xa6, regField dst, 0, off, imm⟩
  | .jlt32X dst src off => ⟨0xae, regField dst, regField src, off, 0⟩
  | .jle64K dst imm off => ⟨0xb5, regField dst, 0, off, imm⟩
  | .jle64X dst src off => ⟨0xbd, regField dst, regField src, off, 0⟩
  | .jle32K dst imm off => ⟨0xb6, regField dst, 0, off, imm⟩
  | .jle32X dst src off => ⟨0xbe, regField dst, regField src, off, 0⟩
  | .jslt64K dst imm off => ⟨0xc5, regField dst, 0, off, imm⟩
  | .jslt64X dst src off => ⟨0xcd, regField dst, regField src, off, 0⟩
  | .jslt32K dst imm off => ⟨0xc6, regField dst, 0, off, imm⟩
  | .jslt32X dst src off => ⟨0xce, regField dst, regField src, off, 0⟩
  | .jsle64K dst imm off => ⟨0xd5, regField dst, 0, off, imm⟩
  | .jsle64X dst src off => ⟨0xdd, regField dst, regField src, off, 0⟩
  | .jsle32K dst imm off => ⟨0xd6, regField dst, 0, off, imm⟩
  | .jsle32X dst src off => ⟨0xde, regField dst, regField src, off, 0⟩
  | .ja off => ⟨0x05, 0, 0, off, 0⟩
  | .callHelper imm => ⟨0x85, 0, 0, 0, imm⟩
  | .callLocal disp =>
    match v.localCallField with
    | .offset => ⟨0x85, 0, 1, disp.truncate 16, 0⟩
    | .imm => ⟨0x85, 0, 1, 0, disp⟩
  | .callBtf imm => ⟨0x85, 0, 2, 0, imm⟩
  | .exit => ⟨0x95, 0, 0, 0, 0⟩
  | .ldxW dst src off => ⟨0x61, regField dst, regField src, off, 0⟩
  | .ldxH dst src off => ⟨0x69, regField dst, regField src, off, 0⟩
  | .ldxB dst src off => ⟨0x71, regField dst, regField src, off, 0⟩
  | .ldxDw dst src off => ⟨0x79, regField dst, regField src, off, 0⟩
  | .stW dst off imm => ⟨0x62, regField dst, 0, off, imm⟩
  | .stH dst off imm => ⟨0x6a, regField dst, 0, off, imm⟩
  | .stB dst off imm => ⟨0x72, regField dst, 0, off, imm⟩
  | .stDw dst off imm => ⟨0x7a, regField dst, 0, off, imm⟩
  | .stxW dst src off => ⟨0x63, regField dst, regField src, off, 0⟩
  | .stxH dst src off => ⟨0x6b, regField dst, regField src, off, 0⟩
  | .stxB dst src off => ⟨0x73, regField dst, regField src, off, 0⟩
  | .stxDw dst src off => ⟨0x7b, regField dst, regField src, off, 0⟩
  | .atomicAddW dst src off => ⟨0xc3, regField dst, regField src, off, 0x00⟩
  | .atomicOrW dst src off => ⟨0xc3, regField dst, regField src, off, 0x40⟩
  | .atomicAndW dst src off => ⟨0xc3, regField dst, regField src, off, 0x50⟩
  | .atomicXorW dst src off => ⟨0xc3, regField dst, regField src, off, 0xa0⟩
  | .atomicFetchAddW dst src off => ⟨0xc3, regField dst, regField src, off, 0x01⟩
  | .atomicFetchOrW dst src off => ⟨0xc3, regField dst, regField src, off, 0x41⟩
  | .atomicFetchAndW dst src off => ⟨0xc3, regField dst, regField src, off, 0x51⟩
  | .atomicFetchXorW dst src off => ⟨0xc3, regField dst, regField src, off, 0xa1⟩
  | .atomicXchgW dst src off => ⟨0xc3, regField dst, regField src, off, 0xe1⟩
  | .atomicCmpxchgW dst src off => ⟨0xc3, regField dst, regField src, off, 0xf1⟩
  | .atomicAddDw dst src off => ⟨0xdb, regField dst, regField src, off, 0x00⟩
  | .atomicOrDw dst src off => ⟨0xdb, regField dst, regField src, off, 0x40⟩
  | .atomicAndDw dst src off => ⟨0xdb, regField dst, regField src, off, 0x50⟩
  | .atomicXorDw dst src off => ⟨0xdb, regField dst, regField src, off, 0xa0⟩
  | .atomicFetchAddDw dst src off => ⟨0xdb, regField dst, regField src, off, 0x01⟩
  | .atomicFetchOrDw dst src off => ⟨0xdb, regField dst, regField src, off, 0x41⟩
  | .atomicFetchAndDw dst src off => ⟨0xdb, regField dst, regField src, off, 0x51⟩
  | .atomicFetchXorDw dst src off => ⟨0xdb, regField dst, regField src, off, 0xa1⟩
  | .atomicXchgDw dst src off => ⟨0xdb, regField dst, regField src, off, 0xe1⟩
  | .atomicCmpxchgDw dst src off => ⟨0xdb, regField dst, regField src, off, 0xf1⟩
  | .ldImm64 dst imm _ => ⟨0x18, regField dst, 0, 0, imm⟩
  | .ldMapFd dst imm => ⟨0x18, regField dst, 1, 0, imm⟩
  | .ldMapValueFd dst imm _ => ⟨0x18, regField dst, 2, 0, imm⟩
  | .ldVarAddr dst imm => ⟨0x18, regField dst, 3, 0, imm⟩
  | .ldCodeAddr dst imm => ⟨0x18, regField dst, 4, 0, imm⟩
  | .ldMapIdx dst imm => ⟨0x18, regField dst, 5, 0, imm⟩
  | .ldMapValueIdx dst imm _ => ⟨0x18, regField dst, 6, 0, imm⟩

/-- The fields of the second slot of a wide instruction (R97): all zero but for `imm`. -/
def Instr.secondFields : Instr → Option Fields
  | .add32K _ _ => none
  | .add32X _ _ => none
  | .add64K _ _ => none
  | .add64X _ _ => none
  | .sub32K _ _ => none
  | .sub32X _ _ => none
  | .sub64K _ _ => none
  | .sub64X _ _ => none
  | .mul32K _ _ => none
  | .mul32X _ _ => none
  | .mul64K _ _ => none
  | .mul64X _ _ => none
  | .div32K _ _ => none
  | .div32X _ _ => none
  | .div64K _ _ => none
  | .div64X _ _ => none
  | .or32K _ _ => none
  | .or32X _ _ => none
  | .or64K _ _ => none
  | .or64X _ _ => none
  | .and32K _ _ => none
  | .and32X _ _ => none
  | .and64K _ _ => none
  | .and64X _ _ => none
  | .lsh32K _ _ => none
  | .lsh32X _ _ => none
  | .lsh64K _ _ => none
  | .lsh64X _ _ => none
  | .rsh32K _ _ => none
  | .rsh32X _ _ => none
  | .rsh64K _ _ => none
  | .rsh64X _ _ => none
  | .neg32K _ _ => none
  | .neg32X _ _ => none
  | .neg64K _ _ => none
  | .neg64X _ _ => none
  | .mod32K _ _ => none
  | .mod32X _ _ => none
  | .mod64K _ _ => none
  | .mod64X _ _ => none
  | .xor32K _ _ => none
  | .xor32X _ _ => none
  | .xor64K _ _ => none
  | .xor64X _ _ => none
  | .mov32K _ _ => none
  | .mov32X _ _ => none
  | .mov64K _ _ => none
  | .mov64X _ _ => none
  | .arsh32K _ _ => none
  | .arsh32X _ _ => none
  | .arsh64K _ _ => none
  | .arsh64X _ _ => none
  | .le16 _ => none
  | .le32 _ => none
  | .le64 _ => none
  | .be16 _ => none
  | .be32 _ => none
  | .be64 _ => none
  | .jeq64K _ _ _ => none
  | .jeq64X _ _ _ => none
  | .jeq32K _ _ _ => none
  | .jeq32X _ _ _ => none
  | .jgt64K _ _ _ => none
  | .jgt64X _ _ _ => none
  | .jgt32K _ _ _ => none
  | .jgt32X _ _ _ => none
  | .jge64K _ _ _ => none
  | .jge64X _ _ _ => none
  | .jge32K _ _ _ => none
  | .jge32X _ _ _ => none
  | .jset64K _ _ _ => none
  | .jset64X _ _ _ => none
  | .jset32K _ _ _ => none
  | .jset32X _ _ _ => none
  | .jne64K _ _ _ => none
  | .jne64X _ _ _ => none
  | .jne32K _ _ _ => none
  | .jne32X _ _ _ => none
  | .jsgt64K _ _ _ => none
  | .jsgt64X _ _ _ => none
  | .jsgt32K _ _ _ => none
  | .jsgt32X _ _ _ => none
  | .jsge64K _ _ _ => none
  | .jsge64X _ _ _ => none
  | .jsge32K _ _ _ => none
  | .jsge32X _ _ _ => none
  | .jlt64K _ _ _ => none
  | .jlt64X _ _ _ => none
  | .jlt32K _ _ _ => none
  | .jlt32X _ _ _ => none
  | .jle64K _ _ _ => none
  | .jle64X _ _ _ => none
  | .jle32K _ _ _ => none
  | .jle32X _ _ _ => none
  | .jslt64K _ _ _ => none
  | .jslt64X _ _ _ => none
  | .jslt32K _ _ _ => none
  | .jslt32X _ _ _ => none
  | .jsle64K _ _ _ => none
  | .jsle64X _ _ _ => none
  | .jsle32K _ _ _ => none
  | .jsle32X _ _ _ => none
  | .ja _ => none
  | .callHelper _ => none
  | .callLocal _ => none
  | .callBtf _ => none
  | .exit => none
  | .ldxW _ _ _ => none
  | .ldxH _ _ _ => none
  | .ldxB _ _ _ => none
  | .ldxDw _ _ _ => none
  | .stW _ _ _ => none
  | .stH _ _ _ => none
  | .stB _ _ _ => none
  | .stDw _ _ _ => none
  | .stxW _ _ _ => none
  | .stxH _ _ _ => none
  | .stxB _ _ _ => none
  | .stxDw _ _ _ => none
  | .atomicAddW _ _ _ => none
  | .atomicOrW _ _ _ => none
  | .atomicAndW _ _ _ => none
  | .atomicXorW _ _ _ => none
  | .atomicFetchAddW _ _ _ => none
  | .atomicFetchOrW _ _ _ => none
  | .atomicFetchAndW _ _ _ => none
  | .atomicFetchXorW _ _ _ => none
  | .atomicXchgW _ _ _ => none
  | .atomicCmpxchgW _ _ _ => none
  | .atomicAddDw _ _ _ => none
  | .atomicOrDw _ _ _ => none
  | .atomicAndDw _ _ _ => none
  | .atomicXorDw _ _ _ => none
  | .atomicFetchAddDw _ _ _ => none
  | .atomicFetchOrDw _ _ _ => none
  | .atomicFetchAndDw _ _ _ => none
  | .atomicFetchXorDw _ _ _ => none
  | .atomicXchgDw _ _ _ => none
  | .atomicCmpxchgDw _ _ _ => none
  | .ldImm64 _ _ nextImm => some ⟨0, 0, 0, 0, nextImm⟩
  | .ldMapFd _ _ => some ⟨0, 0, 0, 0, 0⟩
  | .ldMapValueFd _ _ nextImm => some ⟨0, 0, 0, 0, nextImm⟩
  | .ldVarAddr _ _ => some ⟨0, 0, 0, 0, 0⟩
  | .ldCodeAddr _ _ => some ⟨0, 0, 0, 0, 0⟩
  | .ldMapIdx _ _ => some ⟨0, 0, 0, 0, 0⟩
  | .ldMapValueIdx _ _ nextImm => some ⟨0, 0, 0, 0, nextImm⟩

/-- The bytes of an instruction in this variant (R91, R92, R97). -/
def encode (v : Variant) (i : Instr) : List Byte :=
  (i.fields v).bytes v.endian ++
    match i.secondFields with
    | some g => g.bytes v.endian
    | none => []

/-! ## The host's numbering of an instruction's bits -/

/-- The fields of the first and the second slot of an instruction numbered as spec/opcode_table.json numbers it:
the canonical word `W` of the first slot in bits 63:0, that of the second in bits 127:64. -/
def tableFields (nbits w : Nat) : Fields × Fields :=
  let x := w % 2 ^ nbits
  (Fields.ofWord (BitVec.ofNat 64 x), Fields.ofWord (BitVec.ofNat 64 (x / 2 ^ 64)))

/-- What the decoder reads from such an instruction, laid out in the bytes of the reading the table's masks are
written for (`Variant.letter`). -/
def decodeTableWord (nbits w : Nat) : Option Instr :=
  let v := Variant.letter
  let fs := tableFields nbits w
  match decode v (fs.1.bytes v.endian ++ fs.2.bytes v.endian) with
  | .ok (i, _) => some i
  | .error _ => none

end Sys2Proof
end

