-- ==== Sys2Proof/Machine/State.lean ====
section
/-! DEFINITION. The machine's state as plain data (spec/10_state.md), the reasons a run ends, and the state after
reset. -/

namespace Sys2Proof.Machine

/-- What a register holds (R36): a 64-bit value, or nothing ("A register marked unspecified holds no value").
This is the spec's own state, not a missing reset value: a register loses its value at a call (R262, R263) and at
a return (R265), and a call saves what it finds (R263). -/
inductive RegVal where
  | value (v : Word)
  | unspecified
deriving DecidableEq, Repr

/-- Data memory (R33): the bytes that hold a value, addresses strictly rising. A byte not listed holds no value
(R52, log 16), so no listed byte equals what an unlisted address reads as. -/
abbrev Memory := List Host.Cell

/-- A record of the hidden call stack (R30). -/
structure Frame where
  retPc : Int
  r6 : RegVal
  r7 : RegVal
  r8 : RegVal
  r9 : RegVal
  r10 : Word
deriving DecidableEq, Repr

/-- The kinds of fault with their `info` (spec/60_exceptions.md R361). Raised by the instruction the constructor
names; recorded in `Status.faulted` (R360). Safe: each stops the run where the spec says it stops. -/
inductive Cause where
  /-- Fetch outside the program, or a wide instruction in the last slot (R363). -/
  | pcOutOfRange (pc : Int)
  /-- Decode: a reserved encoding (R362), with the slot, and the second slot of a wide instruction. -/
  | illegalInstruction (slot : Slot) (second : Option Slot)
  /-- A read of a register that holds no value, where the platform does not draw one (R367). -/
  | uninitialisedRegister (r : Reg)
  /-- A data access that is not naturally aligned (R365). -/
  | misaligned (addr : Word) (width : Width)
  /-- A data access outside the granted regions, past the top of the address space, or (where the platform does
  not draw) of a byte that holds no value (R364). -/
  | memoryFault (addr : Word) (width : Width) (access : Access)
  /-- `CALL_LOCAL` at depth `MAX_CALL_DEPTH` (R366). -/
  | callDepthExceeded
  /-- `CALL_HELPER`, `CALL_BTF`: no such helper (R368). -/
  | unknownHelper (kind : HelperKind) (id : BitVec 32)
  /-- `CALL_HELPER`, `CALL_BTF`: the helper's relation yields a fault, with the platform's information (R368). -/
  | helperFault (kind : HelperKind) (id : BitVec 32) (info : Word)
  /-- A 64-bit immediate instruction of subtype 1 to 6 whose lookup is undefined (R369). -/
  | platformLookupFault (subtype : Nat) (imm : BitVec 32)
deriving DecidableEq, Repr

/-- The run status (R31). `exited` and `faulted` are final (R382, R384). -/
inductive Status where
  | running
  | exited (result : Word)
  | faulted (cause : Cause) (pc : Int)
deriving DecidableEq, Repr

/-- The model's record of the free values drawn (log 5): how many draws there have been, and the bytes with which loads
from shared regions were answered, newest first, which `MEMORY_MODEL` may speak of (R66, log 9). -/
structure Draws where
  count : Nat
  answers : List Host.Cell
deriving DecidableEq, Repr

/-- The machine. The last three fields are no state of the spec's: the parameters of spec/00_scope.md R5, which
no instruction changes (R34), and the model's record of the free values drawn. -/
structure State where
  /-- R0 to R9 (R20). -/
  regs : Vector RegVal 10
  /-- R10, the read-only frame pointer (R22). -/
  r10 : Word
  /-- The index of a slot, in the unbounded integers (R25). -/
  pc : Int
  /-- The hidden call stack, newest record first (R30). Its length is the call depth. -/
  frames : List Frame
  status : Status
  mem : Memory
  /-- `PROGRAM` (R53). -/
  program : List Slot
  platform : Platform
  /-- The free values drawn so far (log 5, log 9). -/
  draws : Draws
deriving DecidableEq, Repr

/-- Why the machine has no next state although no fault of the spec is recorded. -/
inductive Fault where
  /-- Raised by `CALL_HELPER` and `CALL_BTF` when the helper gives no result at all: "the program is stuck and the
  run is not final" (spec/42_jump.md R262; spec/93_implementation_defined.md part 2: a helper that does not return,
  stuck). Safe: the machine stops where the hardware never goes on. -/
  | helperDoesNotReturn (kind : HelperKind) (id : BitVec 32)
deriving DecidableEq, Repr

/-- Why the machine refuses to run. -/
inductive Refusal where
  /-- Raised by `exec` for an instruction that has no meaning in the model yet. Safe. No arm answers it. -/
  | notModelled (mnemonic : String)
  /-- Raised by `step` when the parameters are not ones R404 allows: the program is empty, or frames and regions
  overlap or are missing (spec/93_implementation_defined.md part 2, last row: refuse). Safe. -/
  | malformedConfiguration
deriving DecidableEq, Repr

/-- What one instruction, or one step, comes to. -/
abbrev Outcome := Host.Outcome State Fault Refusal

/-- The machine right after reset. The spec has no reset; this is the entry state of R35 on the platform
`Platform.bare` with no program loaded (log 4). R35 gives `pc`, R10, `frames`, `status` and says memory holds no
value on the stack. R0 to R9 hold 0: DESIGN CHOICE, log 3, UNSAFE (R35 leaves them unspecified). -/
def State.reset : State :=
  { regs := Vector.replicate 10 (.value 0)
    r10 := 0x11200
    pc := 0
    frames := []
    status := .running
    mem := []
    program := []
    platform := Platform.bare
    draws := ⟨0, []⟩ }

end Sys2Proof.Machine
end

