-- ==== Sys2Proof/Machine/Relations.lean ====
section
/-! DEFINITION. The relations the platform supplies (spec/00_scope.md R5: `HELPERS`, `MEMORY_MODEL`): what their terms
are worth, which results they allow, and which of those is the one. -/

namespace Sys2Proof.Machine

/-- What a term can look at. -/
structure View where
  args : List Word
  /-- Data memory; an arbitrary byte where it holds no value. -/
  byte : Nat → Byte
  hasByte : Nat → Bool
  answered : Nat → Option Byte
  any : Word → Word

/-- 1 for true, 0 for false. -/
def flagWord (b : Bool) : Word := if b then 1 else 0

/-- The operations of a term: modulo 2^64, unsigned, a division by zero 0, a remainder by zero the
dividend, a shift by the low six bits. -/
def applyOp : TermOp → Word → Word → Word
  | .add, a, b => a + b
  | .sub, a, b => a - b
  | .mul, a, b => a * b
  | .div, a, b => a / b
  | .mod, a, b => a % b
  | .and, a, b => a &&& b
  | .or, a, b => a ||| b
  | .xor, a, b => a ^^^ b
  | .shl, a, b => a <<< (b.toNat % 64)
  | .shr, a, b => a >>> (b.toNat % 64)
  | .eq, a, b => flagWord (a == b)
  | .lt, a, b => flagWord (decide (a.toNat < b.toNat))

/-- `f` applied to the value so far and the index, for the indices from 0 up to, not including, `n`. -/
def iterateWord (f : Word → Word → Word) : Nat → Word → Word
  | 0, w => w
  | n + 1, w => f (iterateWord f n w) (BitVec.ofNat 64 n)

/-- The value of a term; `env` holds the bound words, innermost first. An argument or a bound word there is none of is
0. -/
def evalTerm (v : View) : List Word → Term → Word
  | _, .const w => w
  | _, .arg k => v.args.getD k 0
  | env, .bound k => env.getD k 0
  | env, .byteAt a => (v.byte (evalTerm v env a).toNat).setWidth 64
  | env, .hasByte a => flagWord (v.hasByte (evalTerm v env a).toNat)
  | env, .answered a => ((v.answered (evalTerm v env a).toNat).getD 0).setWidth 64
  | env, .wasAnswered a => flagWord (v.answered (evalTerm v env a).toNat).isSome
  | env, .any key => v.any (evalTerm v env key)
  | env, .op o l r => applyOp o (evalTerm v env l) (evalTerm v env r)
  | env, .cond c t e => if evalTerm v env c = 0 then evalTerm v env e else evalTerm v env t
  | env, .iterate count init body =>
    iterateWord (fun w i => evalTerm v (w :: i :: env) body) (evalTerm v env count).toNat (evalTerm v env init)

/-- Whether a condition holds. -/
def holds (v : View) (condition : Term) : Bool := evalTerm v [] condition != 0

/-- The bytes one write of a helper writes. -/
def writtenBytes (v : View) (w : HelperWrite) : List (Word × Byte) :=
  (List.range (evalTerm v [] w.count).toNat).map fun k =>
    (evalTerm v [] w.addr + BitVec.ofNat 64 k, (evalTerm v [BitVec.ofNat 64 k] w.value).setWidth 8)

/-- The outcome a result describes. -/
def resultOutcome (v : View) : HelperResult → HelperOutcome
  | .returns r0 writes => .returns (evalTerm v [] r0) (writes.flatMap (writtenBytes v))
  | .faults info => .faults (evalTerm v [] info)
  | .doesNotReturn => .doesNotReturn

/-- The outcomes a helper's relation allows (spec/42_jump.md R266). -/
def allowedOutcomes (v : View) (rules : List HelperRule) : List HelperOutcome :=
  (rules.filter fun r => holds v r.condition).map fun r => resultOutcome v r.result

/-- The answers `MEMORY_MODEL` allows to a load (spec/20_memory.md R66 item 4). -/
def allowedAnswers (v : View) (rules : List AnswerRule) : List Word :=
  (rules.filter fun r => holds v r.condition).map fun r => evalTerm v [] r.answer

/-- The one of the results allowed that a choice falls on, if any is allowed. -/
def pick {α : Type} (choice : Nat) : List α → Option α
  | [] => none
  | [a] => some a
  | a :: as => some ((a :: as).getD (choice % (as.length + 1)) a)

end Sys2Proof.Machine
end

