-- ==== Sys2Proof/Machine/Ops.lean ====
section
/-! DEFINITION. The named operations over registers, memory and the hidden state, fetching, taking a fault and the
state at program entry. Every meaning is built from these. -/

namespace Sys2Proof.Machine

/-! ## Taking a fault -/

/-- Taking a fault, the one operation for all of them (spec/60_exceptions.md R360): the status becomes
`faulted(kind, pc, info)` with the faulting instruction's slot, and everything else keeps its value. There is no
handler, no saved pc register and no return (R372, R373). -/
def State.raise (c : Cause) (s : State) : State := { s with status := .faulted c s.pc }

/-- The outcome of an instruction begun in `s`: its effect, or the fault taken in `s` itself, so that "a faulting
instruction has no partial effect" (R360). -/
def settle (s : State) : Except Cause State → Outcome
  | .ok t => .next t
  | .error c => .next (s.raise c)

/-! ## Registers -/

/-- What register `r` holds (spec/10_state.md R20); R10 always holds a value. -/
def State.reg (s : State) (r : Reg) : RegVal :=
  if h : r.val < 10 then s.regs[r.val] else .value s.r10

/-- One more free value has been drawn (log 5). -/
def Draws.next (d : Draws) : Draws := { d with count := d.count + 1 }

/-- Reading a register (R8, R36): its value; if it holds none, `UninitialisedRegister`, or a fresh free value where
the platform draws one. Each operand of an instruction is a read of its own, also where two name one register (log
25). -/
def State.readReg (s : State) (r : Reg) : Except Cause (Word × State) :=
  match s.reg r with
  | .value v => .ok (v, s)
  | .unspecified =>
    match s.platform.noValue with
    | .fault => .error (.uninitialisedRegister r)
    | .draw => .ok (Config.freeWord s.draws.count, { s with draws := s.draws.next })

/-- Writing a register, R0 to R9 (R8): it then holds the value. -/
def State.writeReg (s : State) (d : Dst) (v : Word) : State := { s with regs := s.regs.set d.val (.value v) }

/-- `x[d] <- unspecified` (R36). -/
def State.forgetReg (s : State) (d : Dst) : State := { s with regs := s.regs.set d.val .unspecified }

/-- R1 to R5 hold no value afterwards: "R0 - R5 are scratch registers" (R21, spec/42_jump.md R268). -/
def State.forgetArgs (s : State) : State :=
  ((((s.forgetReg 1).forgetReg 2).forgetReg 3).forgetReg 4).forgetReg 5

/-- Reading several registers in order. -/
def State.readRegs (s : State) : List Reg → Except Cause (List Word × State)
  | [] => .ok ([], s)
  | r :: rs => do
    let (v, s1) ← s.readReg r
    let (vs, s2) ← s1.readRegs rs
    return (v :: vs, s2)

/-! ## The program counter -/

/-- The instruction was `n` slots long and does not transfer control (R26). -/
def State.advance (s : State) (n : Int) : State := { s with pc := s.pc + n }

/-- `pc <- pc + 1 + disp` (R26, spec/42_jump.md R210). -/
def State.jump (s : State) (disp : Int) : State := { s with pc := s.pc + 1 + disp }

/-! ## Memory as a map -/

/-- The byte at an address, if it holds a value. -/
def Memory.read : Memory → Nat → Option Byte
  | [], _ => none
  | (a, b) :: m, x => if x = a then some b else Memory.read m x

/-- The memory after a write of one byte; the listing stays strictly rising. -/
def Memory.write : Memory → Nat → Byte → Memory
  | [], x, v => [(x, v)]
  | (a, b) :: m, x, v =>
    if x < a then (x, v) :: (a, b) :: m
    else if x = a then (x, v) :: m
    else (a, b) :: Memory.write m x v

/-- The memory after the bytes from `lo` up to, not including, `hi` lose their values (spec/20_memory.md R52). -/
def Memory.forget (m : Memory) (lo hi : Nat) : Memory := m.filter fun c => c.1 < lo || hi ≤ c.1

/-- Writing bytes at rising addresses. -/
def Memory.writeAll (m : Memory) (a : Nat) : List Byte → Memory
  | [] => m
  | b :: bs => Memory.writeAll (m.write a b) (a + 1) bs

/-- The canonical form: addresses strictly rising and below 2^64 (log 16). -/
def Memory.wf : Memory → Bool
  | [] => true
  | [(a, _)] => decide (a < 2 ^ 64)
  | (a, _) :: (b, v) :: m => decide (a < b) && Memory.wf ((b, v) :: m)

/-! ## Regions and checks -/

/-- How many bytes an access of this width moves (R60). -/
def widthBytes : Width → Nat
  | .b => 1
  | .h => 2
  | .w => 4
  | .dw => 8

/-- Whether the region holds all `n` bytes from `a` (R51). -/
def regionCovers (r : Region) (a n : Nat) : Bool :=
  decide (r.base.toNat ≤ a) && decide (a + n ≤ r.base.toNat + r.len.toNat)

/-- The permission an access needs (R51). -/
def regionPermits (r : Region) : Access → Bool
  | .read => r.readable
  | .write => r.writable

/-- Whether an access of `n` bytes at `a` lies in one region with the permission it needs (R51). -/
def admits (p : Platform) (k : Access) (a n : Nat) : Bool :=
  p.regions.any fun r => regionCovers r a n && regionPermits r k

/-- Whether some region holds this byte. -/
def granted (p : Platform) (a : Nat) : Bool := p.regions.any fun r => regionCovers r a 1

/-- Whether another agent may write this byte (R51, R66). -/
def isShared (p : Platform) (a : Nat) : Bool := p.regions.any fun r => r.shared && regionCovers r a 1

/-- The checks of R54 and R55, in their order: the top of the address space (R72), alignment (R59), admission
(R51). `aligned` says that a misaligned access faults; where it does not, the access is admitted as a whole (log 12). -/
def checkAccess (p : Platform) (k : Access) (aligned : Bool) (addr : Word) (wd : Width) : Except Cause Unit :=
  if 2 ^ 64 < addr.toNat + widthBytes wd then .error (.memoryFault addr wd k)
  else if aligned && addr.toNat % widthBytes wd != 0 then .error (.misaligned addr wd)
  else if admits p k addr.toNat (widthBytes wd) then .ok ()
  else .error (.memoryFault addr wd k)

/-! ## Byte order -/

/-- The value of bytes, least significant first. -/
def bytesValue : List Byte → Word
  | [] => 0
  | b :: bs => b.setWidth 64 ||| (bytesValue bs <<< 8)

/-- The low `n` bytes of a value, least significant first. -/
def valueBytes : Nat → Word → List Byte
  | 0, _ => []
  | n + 1, v => v.setWidth 8 :: valueBytes n (v >>> 8)

/-- The value of bytes at rising addresses (R54). -/
def assemble (e : Endian) (bs : List Byte) : Word :=
  match e with
  | .little => bytesValue bs
  | .big => bytesValue bs.reverse

/-- The low `n` bytes of a value in the order they are stored at rising addresses (R55). -/
def disassemble (e : Endian) (n : Nat) (v : Word) : List Byte :=
  match e with
  | .little => valueBytes n v
  | .big => (valueBytes n v).reverse

/-! ## The access primitives -/

/-- The byte the program itself last gave an address (R66 items 1 and 2); one that holds no value is drawn where the
platform draws (R52). -/
def State.ownByte (s : State) (a : Nat) : Option Byte :=
  match s.mem.read a with
  | some b => some b
  | none =>
    match s.platform.noValue with
    | .fault => none
    | .draw => some (Config.freeByte s.draws.count a)

/-- A shared byte with nothing known of the other agents: what one of them last wrote there, if one did (R66 item 4). -/
def State.openByte (s : State) (a : Nat) : Option Byte :=
  match Config.otherAgent s.draws.count a with
  | some b => some b
  | none => s.ownByte a

/-- The `n` bytes from address `a`; `none` if one of them is none. -/
def bytesFrom (look : Nat → Option Byte) (a : Nat) : Nat → Option (List Byte)
  | 0 => some []
  | n + 1 =>
    match look a, bytesFrom look (a + 1) n with
    | some b, some bs => some (b :: bs)
    | _, _ => none

/-- What a relation of the platform's can look at in this state, memory being read by `look`. -/
def State.view (s : State) (args : List Word) (look : Nat → Option Byte) (any : Nat → List Word → Word → Word) :
    View :=
  { args := args
    byte := fun a => (look a).getD (Config.freeByte s.draws.count a)
    hasByte := fun a => (s.mem.read a).isSome
    answered := fun a => s.draws.answers.lookup a
    any := any s.draws.count args }

/-- The arguments of `MEMORY_MODEL`: the address of a load and its number of bytes. -/
def loadArgs (a n : Nat) : List Word := [BitVec.ofNat 64 a, BitVec.ofNat 64 n]

/-- The answers the rules of `MEMORY_MODEL` allow to a load of `n` bytes from address `a` (R66 item 4). -/
def State.sharedAnswers (s : State) (rules : List AnswerRule) (a n : Nat) : List Word :=
  allowedAnswers (s.view (loadArgs a n) s.ownByte Config.answerAny) rules

/-- The `n` bytes a load from address `a` sees; `none` if one of them has no value and is not drawn. Outside the shared
regions they are the program's own. In a shared one `MEMORY_MODEL` says which answers are allowed; where its rules allow
none, no other agent wrote (R66). -/
def State.seenBytes (s : State) (a n : Nat) : Option (List Byte) :=
  if isShared s.platform a then
    match s.platform.memoryModel with
    | .unconstrained => bytesFrom s.openByte a n
    | .relation rules =>
      match pick (Config.answerChoice s.draws.count (loadArgs a n)) (s.sharedAnswers rules a n) with
      | some v => some (disassemble s.platform.variant.endian n v)
      | none => bytesFrom s.ownByte a n
  else bytesFrom s.ownByte a n

/-- Bytes at rising addresses, as a listing. -/
def cellsFrom (a : Nat) : List Byte → List Host.Cell
  | [] => []
  | b :: bs => (a, b) :: cellsFrom (a + 1) bs

/-- The model's record of a load: one draw for all its bytes (log 5), and the answer if the bytes are shared (log 9). -/
def State.noteLoad (s : State) (a : Nat) (bs : List Byte) : State :=
  { s with draws := {
      count := s.draws.count + 1
      answers := if isShared s.platform a then cellsFrom a bs ++ s.draws.answers else s.draws.answers } }

/-- Loads of one byte each, at these offsets from `a`, in order, each as a load of its own: it asks `MEMORY_MODEL`, and
its answer is on record for the next. -/
def State.loadEach (s : State) (a : Nat) : List Nat → Option (List Host.Cell × State)
  | [] => some ([], s)
  | k :: ks =>
    match s.seenBytes (a + k) 1 with
    | some [b] => ((s.noteLoad (a + k) [b]).loadEach a ks).map fun (cs, t) => ((a + k, b) :: cs, t)
    | _ => none

/-- The order of the separate accesses of a misaligned load (R59: "in unspecified order"): a free choice in shared
memory, and rising elsewhere, where nothing can tell (log 12). -/
def State.accessOrder (s : State) (a n : Nat) : List Nat :=
  if isShared s.platform a && (Config.accessOrder s.draws.count n).isPerm (List.range n) then
    Config.accessOrder s.draws.count n
  else List.range n

/-- The `n` bytes a plain load from address `a` sees, with the model's record of it. An aligned load is one access
(R61); a misaligned one is "`n` separate 1-byte accesses", "with no atomicity between them" (R59). -/
def State.loadBytes (s : State) (a n : Nat) : Option (List Byte × State) :=
  if a % n = 0 then (s.seenBytes a n).map fun bs => (bs, s.noteLoad a bs)
  else (s.loadEach a (s.accessOrder a n)).map fun (cs, t) =>
    ((List.range n).map fun k => (cs.lookup (a + k)).getD 0, t)

/-- The bytes of an aligned access that has passed its checks, as a value (R54). -/
def State.fetchValue (s : State) (addr : Word) (wd : Width) : Except Cause (Word × State) :=
  match s.seenBytes addr.toNat (widthBytes wd) with
  | some bs => .ok (assemble s.platform.variant.endian bs, s.noteLoad addr.toNat bs)
  | none => .error (.memoryFault addr wd .read)

/-- Storing the low bytes of a value, the checks passed (R55). -/
def State.storeValue (s : State) (addr : Word) (wd : Width) (v : Word) : State :=
  { s with mem := s.mem.writeAll addr.toNat (disassemble s.platform.variant.endian (widthBytes wd) v) }

/-- `MemRead(addr, n)` of a plain load (R54). -/
def State.memRead (s : State) (addr : Word) (wd : Width) : Except Cause (Word × State) := do
  checkAccess s.platform .read (s.platform.misaligned == .fault) addr wd
  match s.loadBytes addr.toNat (widthBytes wd) with
  | some (bs, t) => return (assemble s.platform.variant.endian bs, t)
  | none => .error (.memoryFault addr wd .read)

/-- `MemWrite(addr, n, v)` of a plain store (R55). -/
def State.memWrite (s : State) (addr : Word) (wd : Width) (v : Word) : Except Cause State := do
  checkAccess s.platform .write (s.platform.misaligned == .fault) addr wd
  return s.storeValue addr wd v

/-- One indivisible read-modify-write (R61, spec/44_atomic.md R300, R306): the old value, and the state after
`update` of it, if it gives a value, is stored. The bytes must be aligned, readable and writable whatever
`update` answers (R316). -/
def State.atomically (s : State) (addr : Word) (wd : Width) (update : Word → Option Word) :
    Except Cause (Word × State) := do
  checkAccess s.platform .read true addr wd
  checkAccess s.platform .write true addr wd
  let (old, s1) ← s.fetchValue addr wd
  match update old with
  | some v => return (old, s1.storeValue addr wd v)
  | none => return (old, s1)

/-! ## Calls -/

/-- `FRAME_TOP(d)` (R52). The default past the table is never reached on a configuration R404 allows. -/
def frameTop (p : Platform) (d : Nat) : Word := p.frameTops.getD d 0

/-- The bytes of the frame at depth `d` lose their values (R52: a frame becomes current). -/
def Memory.forgetFrame (m : Memory) (p : Platform) (d : Nat) : Memory :=
  m.forget ((frameTop p d).toNat - p.stackSize) (frameTop p d).toNat

/-- Entering a program-local function (spec/42_jump.md R263): the caller's return slot, R6 to R9 and R10 go on
`frames`; the callee has a fresh frame and no value in R0 and R6 to R9; R1 to R5 keep theirs. -/
def State.enterLocal (s : State) (disp : Int) : Except Cause State :=
  let d := s.frames.length
  if s.platform.maxCallDepth ≤ d then .error .callDepthExceeded
  else
    let frame : Frame :=
      { retPc := s.pc + 1, r6 := s.reg 6, r7 := s.reg 7, r8 := s.reg 8, r9 := s.reg 9, r10 := s.r10 }
    let t := ((((s.forgetReg 0).forgetReg 6).forgetReg 7).forgetReg 8).forgetReg 9
    .ok { t with
      frames := frame :: s.frames
      r10 := frameTop s.platform (d + 1)
      mem := s.mem.forgetFrame s.platform (d + 1)
      pc := s.pc + 1 + disp }

/-- Returning from a program-local function (R265): the saved registers and the return slot come back, R1 to R5
lose their values, R0 is the callee's. -/
def State.leaveLocal (s : State) (f : Frame) (rest : List Frame) : State :=
  { s with
    regs := ((((s.forgetArgs.regs.set 6 f.r6).set 7 f.r7).set 8 f.r8).set 9 f.r9)
    r10 := f.r10
    frames := rest
    pc := f.retPc }

/-- The entry of `HELPERS` for an identifier (R266). -/
def findHelper (p : Platform) (kind : HelperKind) (id : BitVec 32) : Option Helper :=
  p.helpers.find? fun h => h.kind == kind && h.id == id

/-- The argument register of a helper: `0` is R1 (spec/10_state.md R21). -/
def argReg (k : Fin 5) : Reg := ⟨k.val + 1, by omega⟩

/-- The byte a helper finds at an address: what a load of it would see (spec/20_memory.md R73). -/
def State.helperByte (s : State) (a : Nat) : Option Byte := (s.seenBytes a 1).bind List.head?

/-- The outcomes the rules of a helper's relation allow for these arguments in this state: in its registers and its
memory (R266). -/
def State.helperOutcomes (s : State) (rules : List HelperRule) (args : List Word) : List HelperOutcome :=
  allowedOutcomes (s.view args s.helperByte Config.helperAny) rules

/-- What a helper comes to for these arguments in this state (R262, R266): one of the outcomes its relation allows, no
result where it allows none. -/
def State.helperOutcome (s : State) (h : Helper) (args : List Word) : HelperOutcome :=
  match h.behaviour with
  | .oracle => Config.helperAnswer h.kind h.id args s.mem s.draws.count
  | .relation rules => (pick (Config.helperChoice s.draws.count) (s.helperOutcomes rules args)).getD .doesNotReturn

/-- The bytes a helper wrote, in order (spec/20_memory.md R73). Data memory is defined on the granted regions (R33),
so a byte outside them is no state of the machine's. -/
def Memory.applyWrites (m : Memory) (p : Platform) : List (Word × Byte) → Memory
  | [] => m
  | (a, b) :: ws => Memory.applyWrites (if granted p a.toNat then m.write a.toNat b else m) p ws

/-- After a helper returned (R262): R0 is its result, R1 to R5 hold no value, R6 to R10 are unchanged, memory is as
the helper left it. -/
def State.afterHelper (s : State) (r0 : Word) (writes : List (Word × Byte)) : State :=
  (({ s with mem := s.mem.applyWrites s.platform writes, draws := s.draws.next }.writeReg 0 r0).forgetArgs).advance 1

/-- A helper call (R262, R264): look the helper up, read the arguments its relation reads, take its outcome. -/
def callHelper (kind : HelperKind) (id : BitVec 32) (s : State) : Outcome :=
  match findHelper s.platform kind id with
  | none => .next (s.raise (.unknownHelper kind id))
  | some h =>
    match s.readRegs (h.reads.map argReg) with
    | .error c => .next (s.raise c)
    | .ok (args, s1) =>
      match s1.helperOutcome h args with
      | .returns r0 writes => .next (s1.afterHelper r0 writes)
      | .faults info => .next (s.raise (.helperFault kind id info))
      | .doesNotReturn => .fault (.helperDoesNotReturn kind id)

/-! ## Fetch -/

/-- The bytes of the slot at `pc` and of the one after it, as far as the program has them. -/
def State.fetchBytes (s : State) : List Byte := ((s.program.drop s.pc.toNat).take 2).flatMap slotBytes

/-- The slot at an index, for a fault's `info`. -/
def slotAt (prog : List Slot) (k : Nat) : Slot := prog.getD k 0

/-- `IllegalInstruction` with the slot at `pc`, and the second slot if the opcode is 0x18 (R361). -/
def State.illegalHere (s : State) : Cause :=
  let w := slotAt s.program s.pc.toNat
  .illegalInstruction w (if w.extractLsb' 0 8 = 0x18 then some (slotAt s.program (s.pc.toNat + 1)) else none)

/-- Fetch and decode (spec/30_encoding.md R115): `PcOutOfRange` outside the program (R363) or for a wide instruction
in the last slot (R98), `IllegalInstruction` for a reserved encoding (R362). -/
def State.fetch (s : State) : Except Cause Instr :=
  if s.pc < 0 ∨ (s.program.length : Int) ≤ s.pc then .error (.pcOutOfRange s.pc)
  else
    match decode s.platform.variant s.fetchBytes with
    | .ok (i, _) => .ok i
    | .error .truncated => .error (.pcOutOfRange s.pc)
    | .error _ => .error s.illegalHere

/-! ## The configuration (spec/70_reset_and_hazards.md R404) -/

/-- Whether two regions share no byte (R51); a region of no bytes shares none. -/
def regionsDisjoint (r q : Region) : Bool :=
  decide (r.len = 0) || decide (q.len = 0) || decide (r.base.toNat + r.len.toNat ≤ q.base.toNat) ||
    decide (q.base.toNat + q.len.toNat ≤ r.base.toNat)

/-- Whether any two regions at different places of a list stand in a relation. -/
def pairwiseRegions (rel : Region → Region → Bool) : List Region → Bool
  | [] => true
  | r :: rs => rs.all (rel r) && pairwiseRegions rel rs

/-- What R51, R52 and R404 demand of the parameters: regions that end by 2^64 and do not overlap; for each depth 0 to
`MAX_CALL_DEPTH` a private, readable and writable frame of `STACK_SIZE` bytes below `FRAME_TOP(d)`, one of the
regions; frames that do not overlap each other. `REGIONS` is a set, so a record listed twice is one. -/
def platformOk (p : Platform) : Bool :=
  p.regions.all (fun r => decide (r.base.toNat + r.len.toNat ≤ 2 ^ 64))
    && pairwiseRegions (fun r q => r == q || regionsDisjoint r q) p.regions
    && decide (p.frameTops.length = p.maxCallDepth + 1)
    && p.frameTops.all (fun t => decide (p.stackSize ≤ t.toNat) && p.regions.contains (frameRegion p.stackSize t))
    && pairwiseRegions regionsDisjoint (p.frameTops.map (frameRegion p.stackSize))

/-- Whether the configuration may run: also `N ≥ 1` (R5, R404). -/
def State.configured (s : State) : Bool := !s.program.isEmpty && platformOk s.platform

/-! ## Program entry -/

/-- Every stack frame's bytes hold no value (R402). -/
def Memory.forgetFrames (m : Memory) (p : Platform) : Nat → Memory
  | 0 => m.forgetFrame p 0
  | d + 1 => Memory.forgetFrames (m.forgetFrame p (d + 1)) p d

/-- The entry state of spec/10_state.md R35, to the letter: the platform supplies the parameters, the program,
`ENTRY_ARGS` (R1 to R5) and the memory it granted; R0 and R6 to R9 hold no value. -/
def State.enter (p : Platform) (program : List Slot) (a1 a2 a3 a4 a5 : RegVal) (mem : Memory) : State :=
  { regs := #v[.unspecified, a1, a2, a3, a4, a5, .unspecified, .unspecified, .unspecified, .unspecified]
    r10 := frameTop p 0
    pc := 0
    frames := []
    status := .running
    mem := mem.forgetFrames p p.maxCallDepth
    program := program
    platform := p
    draws := ⟨0, []⟩ }

/-! ## Placing an instruction where the next step fetches it -/

/-- The program with two slots replaced, lengthened by zero slots where it does not reach that far. -/
def placeSlots (prog : List Slot) (k : Nat) (w0 w1 : Slot) : List Slot :=
  (prog ++ List.replicate (k - prog.length) 0).take k ++ [w0, w1] ++ prog.drop (k + 2)

/-- The state with the instruction numbered `w` as spec/opcode_table.json numbers its bits stored at `pc`, in the
state's own byte order, and the machine running (log 4). -/
def State.placeWord (s : State) (nbits w : Nat) : State :=
  let e := s.platform.variant.endian
  let fs := tableFields nbits w
  let k := s.pc.toNat
  { s with
    program := placeSlots s.program k (slotOfBytes (fs.1.bytes e)) (slotOfBytes (fs.2.bytes e))
    pc := k
    status := .running }

end Sys2Proof.Machine
end

