-- ==== Sys2Proof/Machine/Operands.lean ====
section
/-! DEFINITION. Operand forms: how a source operand is widened and how an effective address is formed. -/

namespace Sys2Proof.Machine

/-- `imm` as a 64-bit operand: sign-extended (spec/30_encoding.md R102). -/
def immWord (i : Imm) : Word := i.signExtend 64

/-- A 32-bit value in a 64-bit register: bits 63:32 are zero (spec/40_alu.md R141). -/
def zext64 (h : Half) : Word := h.setWidth 64

/-- Bits 31:0 of a register (R141). -/
def low32 (v : Word) : Half := v.setWidth 32

/-- The source operand of the 64-bit classes BPF_ALU64 and BPF_JMP (R102). -/
def State.operand64 (s : State) : Operand → Except Cause (Word × State)
  | .imm i => .ok (immWord i, s)
  | .reg r => s.readReg r

/-- The source operand of the 32-bit classes BPF_ALU and BPF_JMP32 (R102). -/
def State.operand32 (s : State) : Operand → Except Cause (Half × State)
  | .imm i => .ok (i, s)
  | .reg r => (s.readReg r).map fun (v, t) => (low32 v, t)

/-- The effective address of a load, store or atomic operation (spec/20_memory.md R58): the base plus the
sign-extended offset, modulo 2^64. -/
def effAddr (base : Word) (off : Off) : Word := base + off.signExtend 64

end Sys2Proof.Machine
end

