-- ==== Sys2Proof/Machine/Flags.lean ====
section
/-! DEFINITION. The machine has no flags (spec/10_state.md R27): "Every conditional jump compares two operands
itself". These are the comparisons, one for each code of spec/30_encoding.md R107, at either width. -/

namespace Sys2Proof.Machine

variable {n : Nat}

/-- BPF_JEQ: "dst == src". -/
def condEq (a b : BitVec n) : Bool := a == b

/-- BPF_JNE: "dst != src". -/
def condNe (a b : BitVec n) : Bool := a != b

/-- BPF_JSET: "dst & src", true when it is not zero. -/
def condSet (a b : BitVec n) : Bool := (a &&& b) != 0

/-- BPF_JGT: "dst > src", unsigned. -/
def condGt (a b : BitVec n) : Bool := decide (b.toNat < a.toNat)

/-- BPF_JGE: "dst >= src", unsigned. -/
def condGe (a b : BitVec n) : Bool := decide (b.toNat ≤ a.toNat)

/-- BPF_JLT: "dst < src", unsigned. -/
def condLt (a b : BitVec n) : Bool := decide (a.toNat < b.toNat)

/-- BPF_JLE: "dst <= src", unsigned. -/
def condLe (a b : BitVec n) : Bool := decide (a.toNat ≤ b.toNat)

/-- BPF_JSGT: "dst > src", signed two's complement at the comparison's width (spec/42_jump.md R213). -/
def condSgt (a b : BitVec n) : Bool := decide (b.toInt < a.toInt)

/-- BPF_JSGE: "dst >= src", signed. -/
def condSge (a b : BitVec n) : Bool := decide (b.toInt ≤ a.toInt)

/-- BPF_JSLT: "dst < src", signed. -/
def condSlt (a b : BitVec n) : Bool := decide (a.toInt < b.toInt)

/-- BPF_JSLE: "dst <= src", signed. -/
def condSle (a b : BitVec n) : Bool := decide (a.toInt ≤ b.toInt)

end Sys2Proof.Machine
end

