-- ==== Sys2Proof/Machine/Arith.lean ====
section
/-! DEFINITION. The operations of the arithmetic family that Lean has no name for (spec/40_alu.md R143, R144), and the
shape of every arithmetic instruction: operands, result, `pc` (R140, R141, R145). -/

namespace Sys2Proof.Machine

section

variable {n : Nat}

/-- Unsigned division; "the destination register is instead set to zero" when the divisor is (R143). -/
def divU (a b : BitVec n) : BitVec n := if b = 0 then 0 else a / b

/-- Unsigned remainder; the dividend when the divisor is zero (R143). -/
def modU (a b : BitVec n) : BitVec n := if b = 0 then a else a % b

/-- How far to shift: the operand under the mask 63 or 31, the width less one (R144). -/
def shiftAmount (b : BitVec n) : Nat := (b &&& BitVec.ofNat n (n - 1)).toNat

/-- BPF_LSH (R144): the bits that leave the top are lost. -/
def shl (a b : BitVec n) : BitVec n := a <<< shiftAmount b

/-- BPF_RSH (R144): zeros enter at the top. -/
def shr (a b : BitVec n) : BitVec n := a >>> shiftAmount b

/-- BPF_ARSH (R144): copies of the top bit enter. -/
def sar (a b : BitVec n) : BitVec n := a.sshiftRight (shiftAmount b)

end

/-- A BPF_ALU64 instruction with two operands. Both are read before the result is written (R145). With
`src_reg = dst_reg` and no value in it two values are drawn (log 25). -/
def alu64 (f : Word → Word → Word) (dst : Dst) (o : Operand) (s : State) : Outcome :=
  settle s do
    let (a, s1) ← s.readReg dst.castSucc
    let (b, s2) ← s1.operand64 o
    return (s2.writeReg dst (f a b)).advance 1

/-- A BPF_ALU instruction with two operands: 32-bit operands, a 32-bit result zero-extended (R141). -/
def alu32 (f : Half → Half → Half) (dst : Dst) (o : Operand) (s : State) : Outcome :=
  settle s do
    let (a, s1) ← s.readReg dst.castSucc
    let (b, s2) ← s1.operand32 o
    return (s2.writeReg dst (zext64 (f (low32 a) b))).advance 1

/-- BPF_DIV and BPF_MOD at 64 bits (R161, R162, R185, R186). The pseudocode tests the source operand first, so it is
read before the destination (spec/60_exceptions.md R371); the destination is read whatever the divisor
(spec/10_state.md R24, log 24). -/
def divide64 (f : Word → Word → Word) (dst : Dst) (o : Operand) (s : State) : Outcome :=
  settle s do
    let (b, s1) ← s.operand64 o
    let (a, s2) ← s1.readReg dst.castSucc
    return (s2.writeReg dst (f a b)).advance 1

/-- BPF_DIV and BPF_MOD at 32 bits (R159, R160, R183, R184), in the same order. -/
def divide32 (f : Half → Half → Half) (dst : Dst) (o : Operand) (s : State) : Outcome :=
  settle s do
    let (b, s1) ← s.operand32 o
    let (a, s2) ← s1.readReg dst.castSucc
    return (s2.writeReg dst (zext64 (f (low32 a) b))).advance 1

/-- A BPF_ALU64 instruction that does not read its destination (spec/10_state.md R24: MOV and NEG). -/
def set64 (f : Word → Word) (dst : Dst) (o : Operand) (s : State) : Outcome :=
  settle s do
    let (b, s1) ← s.operand64 o
    return (s1.writeReg dst (f b)).advance 1

/-- A BPF_ALU instruction that does not read its destination. -/
def set32 (f : Half → Half) (dst : Dst) (o : Operand) (s : State) : Outcome :=
  settle s do
    let (b, s1) ← s.operand32 o
    return (s1.writeReg dst (zext64 (f b))).advance 1

/-- The operand BPF_NEG negates (R146): its source operand, or under `NEG_OPERAND` = dst its destination. -/
def negOperand (v : Variant) (dst : Dst) (o : Operand) : Operand :=
  match v.negOperand with
  | .src => o
  | .dst => .reg dst.castSucc

/-- BPF_NEG at 64 bits (R146). -/
def neg64 (dst : Dst) (o : Operand) (s : State) : Outcome :=
  set64 (fun b => 0 - b) dst (negOperand s.platform.variant dst o) s

/-- BPF_NEG at 32 bits (R146). -/
def neg32 (dst : Dst) (o : Operand) (s : State) : Outcome :=
  set32 (fun b => 0 - b) dst (negOperand s.platform.variant dst o) s

end Sys2Proof.Machine
end

