-- ==== Sys2Proof/Machine/Alu.lean ====
section
/-! DEFINITION. The meanings of the 52 arithmetic instructions (spec/40_alu.md R147 to R198). -/

namespace Sys2Proof.Machine

/-- ADD32_K: "dst += src" (R147). -/
def execAdd32K (dst : Dst) (imm : Imm) (s : State) : Outcome :=
  alu32 (· + ·) dst (.imm imm) s

/-- ADD32_X: "dst += src" (R148). -/
def execAdd32X (dst : Dst) (src : Reg) (s : State) : Outcome :=
  alu32 (· + ·) dst (.reg src) s

/-- ADD64_K: "dst += src" (R149). -/
def execAdd64K (dst : Dst) (imm : Imm) (s : State) : Outcome :=
  alu64 (· + ·) dst (.imm imm) s

/-- ADD64_X: "dst += src" (R150). -/
def execAdd64X (dst : Dst) (src : Reg) (s : State) : Outcome :=
  alu64 (· + ·) dst (.reg src) s

/-- SUB32_K: "dst -= src" (R151). -/
def execSub32K (dst : Dst) (imm : Imm) (s : State) : Outcome :=
  alu32 (· - ·) dst (.imm imm) s

/-- SUB32_X: "dst -= src" (R152). -/
def execSub32X (dst : Dst) (src : Reg) (s : State) : Outcome :=
  alu32 (· - ·) dst (.reg src) s

/-- SUB64_K: "dst -= src" (R153). -/
def execSub64K (dst : Dst) (imm : Imm) (s : State) : Outcome :=
  alu64 (· - ·) dst (.imm imm) s

/-- SUB64_X: "dst -= src" (R154). -/
def execSub64X (dst : Dst) (src : Reg) (s : State) : Outcome :=
  alu64 (· - ·) dst (.reg src) s

/-- MUL32_K: "dst *= src" (R155). -/
def execMul32K (dst : Dst) (imm : Imm) (s : State) : Outcome :=
  alu32 (· * ·) dst (.imm imm) s

/-- MUL32_X: "dst *= src" (R156). -/
def execMul32X (dst : Dst) (src : Reg) (s : State) : Outcome :=
  alu32 (· * ·) dst (.reg src) s

/-- MUL64_K: "dst *= src" (R157). -/
def execMul64K (dst : Dst) (imm : Imm) (s : State) : Outcome :=
  alu64 (· * ·) dst (.imm imm) s

/-- MUL64_X: "dst *= src" (R158). -/
def execMul64X (dst : Dst) (src : Reg) (s : State) : Outcome :=
  alu64 (· * ·) dst (.reg src) s

/-- DIV32_K: "dst = (src != 0) ? (dst / src) : 0" (R159). -/
def execDiv32K (dst : Dst) (imm : Imm) (s : State) : Outcome :=
  divide32 divU dst (.imm imm) s

/-- DIV32_X: "dst = (src != 0) ? (dst / src) : 0" (R160). -/
def execDiv32X (dst : Dst) (src : Reg) (s : State) : Outcome :=
  divide32 divU dst (.reg src) s

/-- DIV64_K: "dst = (src != 0) ? (dst / src) : 0" (R161). -/
def execDiv64K (dst : Dst) (imm : Imm) (s : State) : Outcome :=
  divide64 divU dst (.imm imm) s

/-- DIV64_X: "dst = (src != 0) ? (dst / src) : 0" (R162). -/
def execDiv64X (dst : Dst) (src : Reg) (s : State) : Outcome :=
  divide64 divU dst (.reg src) s

/-- OR32_K: "dst |= src" (R163). -/
def execOr32K (dst : Dst) (imm : Imm) (s : State) : Outcome :=
  alu32 (· ||| ·) dst (.imm imm) s

/-- OR32_X: "dst |= src" (R164). -/
def execOr32X (dst : Dst) (src : Reg) (s : State) : Outcome :=
  alu32 (· ||| ·) dst (.reg src) s

/-- OR64_K: "dst |= src" (R165). -/
def execOr64K (dst : Dst) (imm : Imm) (s : State) : Outcome :=
  alu64 (· ||| ·) dst (.imm imm) s

/-- OR64_X: "dst |= src" (R166). -/
def execOr64X (dst : Dst) (src : Reg) (s : State) : Outcome :=
  alu64 (· ||| ·) dst (.reg src) s

/-- AND32_K: "dst &= src" (R167). -/
def execAnd32K (dst : Dst) (imm : Imm) (s : State) : Outcome :=
  alu32 (· &&& ·) dst (.imm imm) s

/-- AND32_X: "dst &= src" (R168). -/
def execAnd32X (dst : Dst) (src : Reg) (s : State) : Outcome :=
  alu32 (· &&& ·) dst (.reg src) s

/-- AND64_K: "dst &= src" (R169). -/
def execAnd64K (dst : Dst) (imm : Imm) (s : State) : Outcome :=
  alu64 (· &&& ·) dst (.imm imm) s

/-- AND64_X: "dst &= src" (R170). -/
def execAnd64X (dst : Dst) (src : Reg) (s : State) : Outcome :=
  alu64 (· &&& ·) dst (.reg src) s

/-- LSH32_K: "dst <<= (src & mask)" (R171). -/
def execLsh32K (dst : Dst) (imm : Imm) (s : State) : Outcome :=
  alu32 shl dst (.imm imm) s

/-- LSH32_X: "dst <<= (src & mask)" (R172). -/
def execLsh32X (dst : Dst) (src : Reg) (s : State) : Outcome :=
  alu32 shl dst (.reg src) s

/-- LSH64_K: "dst <<= (src & mask)" (R173). -/
def execLsh64K (dst : Dst) (imm : Imm) (s : State) : Outcome :=
  alu64 shl dst (.imm imm) s

/-- LSH64_X: "dst <<= (src & mask)" (R174). -/
def execLsh64X (dst : Dst) (src : Reg) (s : State) : Outcome :=
  alu64 shl dst (.reg src) s

/-- RSH32_K: "dst >>= (src & mask)" (R175). -/
def execRsh32K (dst : Dst) (imm : Imm) (s : State) : Outcome :=
  alu32 shr dst (.imm imm) s

/-- RSH32_X: "dst >>= (src & mask)" (R176). -/
def execRsh32X (dst : Dst) (src : Reg) (s : State) : Outcome :=
  alu32 shr dst (.reg src) s

/-- RSH64_K: "dst >>= (src & mask)" (R177). -/
def execRsh64K (dst : Dst) (imm : Imm) (s : State) : Outcome :=
  alu64 shr dst (.imm imm) s

/-- RSH64_X: "dst >>= (src & mask)" (R178). -/
def execRsh64X (dst : Dst) (src : Reg) (s : State) : Outcome :=
  alu64 shr dst (.reg src) s

/-- NEG32_K: dst = -src, by `NEG_OPERAND` (R146) (R179). -/
def execNeg32K (dst : Dst) (imm : Imm) (s : State) : Outcome :=
  neg32 dst (.imm imm) s

/-- NEG32_X: dst = -src, by `NEG_OPERAND` (R146) (R180). -/
def execNeg32X (dst : Dst) (src : Reg) (s : State) : Outcome :=
  neg32 dst (.reg src) s

/-- NEG64_K: dst = -src, by `NEG_OPERAND` (R146) (R181). -/
def execNeg64K (dst : Dst) (imm : Imm) (s : State) : Outcome :=
  neg64 dst (.imm imm) s

/-- NEG64_X: dst = -src, by `NEG_OPERAND` (R146) (R182). -/
def execNeg64X (dst : Dst) (src : Reg) (s : State) : Outcome :=
  neg64 dst (.reg src) s

/-- MOD32_K: "dst = (src != 0) ? (dst % src) : dst" (R183). -/
def execMod32K (dst : Dst) (imm : Imm) (s : State) : Outcome :=
  divide32 modU dst (.imm imm) s

/-- MOD32_X: "dst = (src != 0) ? (dst % src) : dst" (R184). -/
def execMod32X (dst : Dst) (src : Reg) (s : State) : Outcome :=
  divide32 modU dst (.reg src) s

/-- MOD64_K: "dst = (src != 0) ? (dst % src) : dst" (R185). -/
def execMod64K (dst : Dst) (imm : Imm) (s : State) : Outcome :=
  divide64 modU dst (.imm imm) s

/-- MOD64_X: "dst = (src != 0) ? (dst % src) : dst" (R186). -/
def execMod64X (dst : Dst) (src : Reg) (s : State) : Outcome :=
  divide64 modU dst (.reg src) s

/-- XOR32_K: "dst ^= src" (R187). -/
def execXor32K (dst : Dst) (imm : Imm) (s : State) : Outcome :=
  alu32 (· ^^^ ·) dst (.imm imm) s

/-- XOR32_X: "dst ^= src" (R188). -/
def execXor32X (dst : Dst) (src : Reg) (s : State) : Outcome :=
  alu32 (· ^^^ ·) dst (.reg src) s

/-- XOR64_K: "dst ^= src" (R189). -/
def execXor64K (dst : Dst) (imm : Imm) (s : State) : Outcome :=
  alu64 (· ^^^ ·) dst (.imm imm) s

/-- XOR64_X: "dst ^= src" (R190). -/
def execXor64X (dst : Dst) (src : Reg) (s : State) : Outcome :=
  alu64 (· ^^^ ·) dst (.reg src) s

/-- MOV32_K: "dst = src" (R191). -/
def execMov32K (dst : Dst) (imm : Imm) (s : State) : Outcome :=
  set32 id dst (.imm imm) s

/-- MOV32_X: "dst = src" (R192). -/
def execMov32X (dst : Dst) (src : Reg) (s : State) : Outcome :=
  set32 id dst (.reg src) s

/-- MOV64_K: "dst = src" (R193). -/
def execMov64K (dst : Dst) (imm : Imm) (s : State) : Outcome :=
  set64 id dst (.imm imm) s

/-- MOV64_X: "dst = src" (R194). -/
def execMov64X (dst : Dst) (src : Reg) (s : State) : Outcome :=
  set64 id dst (.reg src) s

/-- ARSH32_K: "sign extending dst >>= (src & mask)" (R195). -/
def execArsh32K (dst : Dst) (imm : Imm) (s : State) : Outcome :=
  alu32 sar dst (.imm imm) s

/-- ARSH32_X: "sign extending dst >>= (src & mask)" (R196). -/
def execArsh32X (dst : Dst) (src : Reg) (s : State) : Outcome :=
  alu32 sar dst (.reg src) s

/-- ARSH64_K: "sign extending dst >>= (src & mask)" (R197). -/
def execArsh64K (dst : Dst) (imm : Imm) (s : State) : Outcome :=
  alu64 sar dst (.imm imm) s

/-- ARSH64_X: "sign extending dst >>= (src & mask)" (R198). -/
def execArsh64X (dst : Dst) (src : Reg) (s : State) : Outcome :=
  alu64 sar dst (.reg src) s

end Sys2Proof.Machine
end

