-- ==== Sys2Proof/Machine/Atomic.lean ====
section
/-! DEFINITION. The meanings of the atomic operations (spec/44_atomic.md). The registers are read before the memory
event (spec/60_exceptions.md R371), which is one step (R300). -/

namespace Sys2Proof.Machine

/-- An operation at 32 bits on the low halves of the old value and the source (R302). -/
def at32 (f : Half → Half → Half) (old v : Word) : Word := zext64 (f (low32 old) (low32 v))

/-- A simple operation without the fetch modifier: memory becomes `f old src`, no register is written (R302). -/
def atomicUpdate (wd : Width) (f : Word → Word → Word) (dst src : Reg) (off : Off) (s : State) : Outcome :=
  settle s do
    let (base, s1) ← s.readReg dst
    let (v, s2) ← s1.readReg src
    let (_, s3) ← s2.atomically (effAddr base off) wd fun old => some (f old v)
    return s3.advance 1

/-- The same with the fetch modifier, and the exchange: the source register receives the old value (R303, R304). -/
def atomicFetch (wd : Width) (f : Word → Word → Word) (dst : Reg) (src : Dst) (off : Off) (s : State) : Outcome :=
  settle s do
    let (base, s1) ← s.readReg dst
    let (v, s2) ← s1.readReg src.castSucc
    let (old, s3) ← s2.atomically (effAddr base off) wd fun old => some (f old v)
    return (s3.writeReg src old).advance 1

/-- Compare and exchange (R305): the bits `view` keeps of the old value and of R0 are compared; on a match memory
receives those of the source register. R0 receives the old value in either case. The registers are read in the order
base, R0, source (log 11). -/
def atomicCompare (wd : Width) (view : Word → Word) (dst src : Reg) (off : Off) (s : State) : Outcome :=
  settle s do
    let (base, s1) ← s.readReg dst
    let (expected, s2) ← s1.readReg 0
    let (v, s3) ← s2.readReg src
    let (old, s4) ← s3.atomically (effAddr base off) wd fun old =>
      if view old = view expected then some (view v) else none
    return (s4.writeReg 0 old).advance 1

/-- ATOMIC_ADD_W: "atomic add" (R307). -/
def execAtomicAddW (dst : Reg) (src : Reg) (off : Off) (s : State) : Outcome :=
  atomicUpdate .w (at32 (· + ·)) dst src off s

/-- ATOMIC_OR_W: "atomic or" (R308). -/
def execAtomicOrW (dst : Reg) (src : Reg) (off : Off) (s : State) : Outcome :=
  atomicUpdate .w (at32 (· ||| ·)) dst src off s

/-- ATOMIC_AND_W: "atomic and" (R309). -/
def execAtomicAndW (dst : Reg) (src : Reg) (off : Off) (s : State) : Outcome :=
  atomicUpdate .w (at32 (· &&& ·)) dst src off s

/-- ATOMIC_XOR_W: "atomic xor" (R310). -/
def execAtomicXorW (dst : Reg) (src : Reg) (off : Off) (s : State) : Outcome :=
  atomicUpdate .w (at32 (· ^^^ ·)) dst src off s

/-- ATOMIC_FETCH_ADD_W: "atomic add", "return old value" (R311). -/
def execAtomicFetchAddW (dst : Reg) (src : Dst) (off : Off) (s : State) : Outcome :=
  atomicFetch .w (at32 (· + ·)) dst src off s

/-- ATOMIC_FETCH_OR_W: "atomic or", "return old value" (R312). -/
def execAtomicFetchOrW (dst : Reg) (src : Dst) (off : Off) (s : State) : Outcome :=
  atomicFetch .w (at32 (· ||| ·)) dst src off s

/-- ATOMIC_FETCH_AND_W: "atomic and", "return old value" (R313). -/
def execAtomicFetchAndW (dst : Reg) (src : Dst) (off : Off) (s : State) : Outcome :=
  atomicFetch .w (at32 (· &&& ·)) dst src off s

/-- ATOMIC_FETCH_XOR_W: "atomic xor", "return old value" (R314). -/
def execAtomicFetchXorW (dst : Reg) (src : Dst) (off : Off) (s : State) : Outcome :=
  atomicFetch .w (at32 (· ^^^ ·)) dst src off s

/-- ATOMIC_XCHG_W: "atomic exchange" (R315). -/
def execAtomicXchgW (dst : Reg) (src : Dst) (off : Off) (s : State) : Outcome :=
  atomicFetch .w (at32 fun _ v => v) dst src off s

/-- ATOMIC_CMPXCHG_W: "atomic compare and exchange" (R316). -/
def execAtomicCmpxchgW (dst : Reg) (src : Reg) (off : Off) (s : State) : Outcome :=
  atomicCompare .w (fun v => zext64 (low32 v)) dst src off s

/-- ATOMIC_ADD_DW: "atomic add" (R317). -/
def execAtomicAddDw (dst : Reg) (src : Reg) (off : Off) (s : State) : Outcome :=
  atomicUpdate .dw (· + ·) dst src off s

/-- ATOMIC_OR_DW: "atomic or" (R318). -/
def execAtomicOrDw (dst : Reg) (src : Reg) (off : Off) (s : State) : Outcome :=
  atomicUpdate .dw (· ||| ·) dst src off s

/-- ATOMIC_AND_DW: "atomic and" (R319). -/
def execAtomicAndDw (dst : Reg) (src : Reg) (off : Off) (s : State) : Outcome :=
  atomicUpdate .dw (· &&& ·) dst src off s

/-- ATOMIC_XOR_DW: "atomic xor" (R320). -/
def execAtomicXorDw (dst : Reg) (src : Reg) (off : Off) (s : State) : Outcome :=
  atomicUpdate .dw (· ^^^ ·) dst src off s

/-- ATOMIC_FETCH_ADD_DW: "atomic add", "return old value" (R321). -/
def execAtomicFetchAddDw (dst : Reg) (src : Dst) (off : Off) (s : State) : Outcome :=
  atomicFetch .dw (· + ·) dst src off s

/-- ATOMIC_FETCH_OR_DW: "atomic or", "return old value" (R322). -/
def execAtomicFetchOrDw (dst : Reg) (src : Dst) (off : Off) (s : State) : Outcome :=
  atomicFetch .dw (· ||| ·) dst src off s

/-- ATOMIC_FETCH_AND_DW: "atomic and", "return old value" (R323). -/
def execAtomicFetchAndDw (dst : Reg) (src : Dst) (off : Off) (s : State) : Outcome :=
  atomicFetch .dw (· &&& ·) dst src off s

/-- ATOMIC_FETCH_XOR_DW: "atomic xor", "return old value" (R324). -/
def execAtomicFetchXorDw (dst : Reg) (src : Dst) (off : Off) (s : State) : Outcome :=
  atomicFetch .dw (· ^^^ ·) dst src off s

/-- ATOMIC_XCHG_DW: "atomic exchange" (R325). -/
def execAtomicXchgDw (dst : Reg) (src : Dst) (off : Off) (s : State) : Outcome :=
  atomicFetch .dw (fun _ v => v) dst src off s

/-- ATOMIC_CMPXCHG_DW: "atomic compare and exchange" (R326). -/
def execAtomicCmpxchgDw (dst : Reg) (src : Reg) (off : Off) (s : State) : Outcome :=
  atomicCompare .dw id dst src off s

end Sys2Proof.Machine
end

