-- ==== Sys2Proof/Machine/ByteSwap.lean ====
section
/-! DEFINITION. The meanings of the byte swap instructions (spec/41_byteswap.md). -/

namespace Sys2Proof.Machine

/-- Reversing the low `n / 8` bytes of a value, the rest zero (spec/00_scope.md R8, `bswap_N`). -/
def bswap (n : Nat) (v : Word) : Word := bytesValue (valueBytes (n / 8) v).reverse

/-- Converting the low `n` bits between the host's byte order and the named one (R201): truncated to `n` bits, the
bytes reversed if the two orders differ, zero-extended. -/
def convert (n : Nat) (named host : Endian) (v : Word) : Word :=
  if named = host then (v.setWidth n).setWidth 64 else bswap n v

/-- An instruction that replaces a register by a function of itself (spec/10_state.md R24). -/
def swapReg (f : Word → Word) (dst : Dst) (s : State) : Outcome :=
  settle s do
    let (a, s1) ← s.readReg dst.castSucc
    return (s1.writeReg dst (f a)).advance 1

/-- LE16: dst = htole16(dst) (R202). -/
def execLe16 (dst : Dst) (s : State) : Outcome :=
  swapReg (convert 16 .little s.platform.variant.endian) dst s

/-- LE32: dst = htole32(dst) (R203). -/
def execLe32 (dst : Dst) (s : State) : Outcome :=
  swapReg (convert 32 .little s.platform.variant.endian) dst s

/-- LE64: dst = htole64(dst) (R204). -/
def execLe64 (dst : Dst) (s : State) : Outcome :=
  swapReg (convert 64 .little s.platform.variant.endian) dst s

/-- BE16: dst = htobe16(dst) (R205). -/
def execBe16 (dst : Dst) (s : State) : Outcome :=
  swapReg (convert 16 .big s.platform.variant.endian) dst s

/-- BE32: dst = htobe32(dst) (R206). -/
def execBe32 (dst : Dst) (s : State) : Outcome :=
  swapReg (convert 32 .big s.platform.variant.endian) dst s

/-- BE64: dst = htobe64(dst) (R207). -/
def execBe64 (dst : Dst) (s : State) : Outcome :=
  swapReg (convert 64 .big s.platform.variant.endian) dst s

end Sys2Proof.Machine
end

