-- ==== Sys2Proof/Machine/Call.lean ====
section
/-! DEFINITION. The meanings of the calls and the exit (spec/42_jump.md R262 to R271), over the shared operations
`callHelper`, `State.enterLocal` and `State.leaveLocal`. -/

namespace Sys2Proof.Machine

/-- CALL_HELPER: "call helper function by address" (R262). -/
def execCallHelper (imm : Imm) (s : State) : Outcome :=
  callHelper .byAddress imm s

/-- CALL_LOCAL: "call PC += offset" (R263). -/
def execCallLocal (disp : BitVec 32) (s : State) : Outcome :=
  settle s (s.enterLocal disp.toInt)

/-- CALL_BTF: "call helper function by BTF ID" (R264). -/
def execCallBtf (imm : Imm) (s : State) : Outcome :=
  callHelper .byBtfId imm s

/-- EXIT: "return" (R265). At depth 0 the run ends with R0 as its result, and nothing else changes (log 20). Above it
the saved registers and the return slot come back. -/
def execExit (s : State) : Outcome :=
  match s.frames with
  | [] => settle s ((s.readReg 0).map fun (v, t) => { t with status := .exited v })
  | f :: rest => .next (s.leaveLocal f rest)

end Sys2Proof.Machine
end

