-- ==== Sys2Proof/Machine/Imm64.lean ====
section
/-! DEFINITION. The meanings of the 64-bit immediate instructions (spec/45_imm64.md). Each takes two slots (R332). -/

namespace Sys2Proof.Machine

/-- A value written to the destination, past both slots (R332). -/
def loadConst (dst : Dst) (v : Word) (s : State) : Outcome := .next ((s.writeReg dst v).advance 2)

/-- A platform lookup: its value, or `PlatformLookupFault` where it is undefined (R344, R369). -/
def loadLookup (subtype : Nat) (imm : Imm) (dst : Dst) (found : Option Word) (s : State) : Outcome :=
  match found with
  | some v => loadConst dst v s
  | none => .next (s.raise (.platformLookupFault subtype imm))

/-- `MAP_VAL` of a map, plus an unsigned byte offset (R336, R340); undefined if either lookup is. -/
def mapValue (p : Platform) (map : Option Word) (nextImm : Imm) : Option Word :=
  match map with
  | some m => (p.mapVal.lookup m).map fun v => v + nextImm.setWidth 64
  | none => none

/-- LD_IMM64: "dst = imm64" (R334). -/
def execLdImm64 (dst : Dst) (imm : Imm) (nextImm : Imm) (s : State) : Outcome :=
  loadConst dst (nextImm ++ imm) s

/-- LD_MAP_FD: "dst = map_by_fd(imm)" (R335). -/
def execLdMapFd (dst : Dst) (imm : Imm) (s : State) : Outcome :=
  loadLookup 1 imm dst (s.platform.mapByFd.lookup imm) s

/-- LD_MAP_VALUE_FD: "dst = map_val(map_by_fd(imm)) + next_imm" (R336). -/
def execLdMapValueFd (dst : Dst) (imm : Imm) (nextImm : Imm) (s : State) : Outcome :=
  loadLookup 2 imm dst (mapValue s.platform (s.platform.mapByFd.lookup imm) nextImm) s

/-- LD_VAR_ADDR: "dst = var_addr(imm)" (R337). -/
def execLdVarAddr (dst : Dst) (imm : Imm) (s : State) : Outcome :=
  loadLookup 3 imm dst (s.platform.varAddr.lookup imm) s

/-- LD_CODE_ADDR: "dst = code_addr(imm)" (R338). -/
def execLdCodeAddr (dst : Dst) (imm : Imm) (s : State) : Outcome :=
  loadLookup 4 imm dst (s.platform.codeAddr.lookup (s.pc, imm)) s

/-- LD_MAP_IDX: "dst = map_by_idx(imm)" (R339). -/
def execLdMapIdx (dst : Dst) (imm : Imm) (s : State) : Outcome :=
  loadLookup 5 imm dst (s.platform.mapByIdx.lookup imm) s

/-- LD_MAP_VALUE_IDX: "dst = map_val(map_by_idx(imm)) + next_imm" (R340). -/
def execLdMapValueIdx (dst : Dst) (imm : Imm) (nextImm : Imm) (s : State) : Outcome :=
  loadLookup 6 imm dst (mapValue s.platform (s.platform.mapByIdx.lookup imm) nextImm) s

end Sys2Proof.Machine
end

