-- ==== Sys2Proof/Machine/Jump.lean ====
section
/-! DEFINITION. The meanings of the jumps (spec/42_jump.md R210 to R261). -/

namespace Sys2Proof.Machine

/-- Where control goes after a conditional jump (R210, R212). -/
def State.branch (s : State) (taken : Bool) (off : Off) : State := if taken then s.jump off.toInt else s.advance 1

/-- A conditional jump of class BPF_JMP: a 64-bit comparison (R211). The target is not checked here (R214). With
`src_reg = dst_reg` and no value in it two values are drawn, so the condition is open there, and not "always true" (R219)
or "always false" (log 25). -/
def condJump64 (cond : Word → Word → Bool) (dst : Reg) (o : Operand) (off : Off) (s : State) : Outcome :=
  settle s do
    let (a, s1) ← s.readReg dst
    let (b, s2) ← s1.operand64 o
    return s2.branch (cond a b) off

/-- A conditional jump of class BPF_JMP32: a 32-bit comparison (R211), with the same choice (log 25). -/
def condJump32 (cond : Half → Half → Bool) (dst : Reg) (o : Operand) (off : Off) (s : State) : Outcome :=
  settle s do
    let (a, s1) ← s.readReg dst
    let (b, s2) ← s1.operand32 o
    return s2.branch (cond (low32 a) b) off

/-- JEQ64_K: "PC += offset if dst == src", at 64 bits (R218). -/
def execJeq64K (dst : Reg) (imm : Imm) (off : Off) (s : State) : Outcome :=
  condJump64 condEq dst (.imm imm) off s

/-- JEQ64_X: "PC += offset if dst == src", at 64 bits (R219). -/
def execJeq64X (dst : Reg) (src : Reg) (off : Off) (s : State) : Outcome :=
  condJump64 condEq dst (.reg src) off s

/-- JEQ32_K: "PC += offset if dst == src", at 32 bits (R220). -/
def execJeq32K (dst : Reg) (imm : Imm) (off : Off) (s : State) : Outcome :=
  condJump32 condEq dst (.imm imm) off s

/-- JEQ32_X: "PC += offset if dst == src", at 32 bits (R221). -/
def execJeq32X (dst : Reg) (src : Reg) (off : Off) (s : State) : Outcome :=
  condJump32 condEq dst (.reg src) off s

/-- JGT64_K: "PC += offset if dst > src", unsigned, at 64 bits (R222). -/
def execJgt64K (dst : Reg) (imm : Imm) (off : Off) (s : State) : Outcome :=
  condJump64 condGt dst (.imm imm) off s

/-- JGT64_X: "PC += offset if dst > src", unsigned, at 64 bits (R223). -/
def execJgt64X (dst : Reg) (src : Reg) (off : Off) (s : State) : Outcome :=
  condJump64 condGt dst (.reg src) off s

/-- JGT32_K: "PC += offset if dst > src", unsigned, at 32 bits (R224). -/
def execJgt32K (dst : Reg) (imm : Imm) (off : Off) (s : State) : Outcome :=
  condJump32 condGt dst (.imm imm) off s

/-- JGT32_X: "PC += offset if dst > src", unsigned, at 32 bits (R225). -/
def execJgt32X (dst : Reg) (src : Reg) (off : Off) (s : State) : Outcome :=
  condJump32 condGt dst (.reg src) off s

/-- JGE64_K: "PC += offset if dst >= src", unsigned, at 64 bits (R226). -/
def execJge64K (dst : Reg) (imm : Imm) (off : Off) (s : State) : Outcome :=
  condJump64 condGe dst (.imm imm) off s

/-- JGE64_X: "PC += offset if dst >= src", unsigned, at 64 bits (R227). -/
def execJge64X (dst : Reg) (src : Reg) (off : Off) (s : State) : Outcome :=
  condJump64 condGe dst (.reg src) off s

/-- JGE32_K: "PC += offset if dst >= src", unsigned, at 32 bits (R228). -/
def execJge32K (dst : Reg) (imm : Imm) (off : Off) (s : State) : Outcome :=
  condJump32 condGe dst (.imm imm) off s

/-- JGE32_X: "PC += offset if dst >= src", unsigned, at 32 bits (R229). -/
def execJge32X (dst : Reg) (src : Reg) (off : Off) (s : State) : Outcome :=
  condJump32 condGe dst (.reg src) off s

/-- JSET64_K: "PC += offset if dst & src", at 64 bits (R230). -/
def execJset64K (dst : Reg) (imm : Imm) (off : Off) (s : State) : Outcome :=
  condJump64 condSet dst (.imm imm) off s

/-- JSET64_X: "PC += offset if dst & src", at 64 bits (R231). -/
def execJset64X (dst : Reg) (src : Reg) (off : Off) (s : State) : Outcome :=
  condJump64 condSet dst (.reg src) off s

/-- JSET32_K: "PC += offset if dst & src", at 32 bits (R232). -/
def execJset32K (dst : Reg) (imm : Imm) (off : Off) (s : State) : Outcome :=
  condJump32 condSet dst (.imm imm) off s

/-- JSET32_X: "PC += offset if dst & src", at 32 bits (R233). -/
def execJset32X (dst : Reg) (src : Reg) (off : Off) (s : State) : Outcome :=
  condJump32 condSet dst (.reg src) off s

/-- JNE64_K: "PC += offset if dst != src", at 64 bits (R234). -/
def execJne64K (dst : Reg) (imm : Imm) (off : Off) (s : State) : Outcome :=
  condJump64 condNe dst (.imm imm) off s

/-- JNE64_X: "PC += offset if dst != src", at 64 bits (R235). -/
def execJne64X (dst : Reg) (src : Reg) (off : Off) (s : State) : Outcome :=
  condJump64 condNe dst (.reg src) off s

/-- JNE32_K: "PC += offset if dst != src", at 32 bits (R236). -/
def execJne32K (dst : Reg) (imm : Imm) (off : Off) (s : State) : Outcome :=
  condJump32 condNe dst (.imm imm) off s

/-- JNE32_X: "PC += offset if dst != src", at 32 bits (R237). -/
def execJne32X (dst : Reg) (src : Reg) (off : Off) (s : State) : Outcome :=
  condJump32 condNe dst (.reg src) off s

/-- JSGT64_K: "PC += offset if dst > src", signed, at 64 bits (R238). -/
def execJsgt64K (dst : Reg) (imm : Imm) (off : Off) (s : State) : Outcome :=
  condJump64 condSgt dst (.imm imm) off s

/-- JSGT64_X: "PC += offset if dst > src", signed, at 64 bits (R239). -/
def execJsgt64X (dst : Reg) (src : Reg) (off : Off) (s : State) : Outcome :=
  condJump64 condSgt dst (.reg src) off s

/-- JSGT32_K: "PC += offset if dst > src", signed, at 32 bits (R240). -/
def execJsgt32K (dst : Reg) (imm : Imm) (off : Off) (s : State) : Outcome :=
  condJump32 condSgt dst (.imm imm) off s

/-- JSGT32_X: "PC += offset if dst > src", signed, at 32 bits (R241). -/
def execJsgt32X (dst : Reg) (src : Reg) (off : Off) (s : State) : Outcome :=
  condJump32 condSgt dst (.reg src) off s

/-- JSGE64_K: "PC += offset if dst >= src", signed, at 64 bits (R242). -/
def execJsge64K (dst : Reg) (imm : Imm) (off : Off) (s : State) : Outcome :=
  condJump64 condSge dst (.imm imm) off s

/-- JSGE64_X: "PC += offset if dst >= src", signed, at 64 bits (R243). -/
def execJsge64X (dst : Reg) (src : Reg) (off : Off) (s : State) : Outcome :=
  condJump64 condSge dst (.reg src) off s

/-- JSGE32_K: "PC += offset if dst >= src", signed, at 32 bits (R244). -/
def execJsge32K (dst : Reg) (imm : Imm) (off : Off) (s : State) : Outcome :=
  condJump32 condSge dst (.imm imm) off s

/-- JSGE32_X: "PC += offset if dst >= src", signed, at 32 bits (R245). -/
def execJsge32X (dst : Reg) (src : Reg) (off : Off) (s : State) : Outcome :=
  condJump32 condSge dst (.reg src) off s

/-- JLT64_K: "PC += offset if dst < src", unsigned, at 64 bits (R246). -/
def execJlt64K (dst : Reg) (imm : Imm) (off : Off) (s : State) : Outcome :=
  condJump64 condLt dst (.imm imm) off s

/-- JLT64_X: "PC += offset if dst < src", unsigned, at 64 bits (R247). -/
def execJlt64X (dst : Reg) (src : Reg) (off : Off) (s : State) : Outcome :=
  condJump64 condLt dst (.reg src) off s

/-- JLT32_K: "PC += offset if dst < src", unsigned, at 32 bits (R248). -/
def execJlt32K (dst : Reg) (imm : Imm) (off : Off) (s : State) : Outcome :=
  condJump32 condLt dst (.imm imm) off s

/-- JLT32_X: "PC += offset if dst < src", unsigned, at 32 bits (R249). -/
def execJlt32X (dst : Reg) (src : Reg) (off : Off) (s : State) : Outcome :=
  condJump32 condLt dst (.reg src) off s

/-- JLE64_K: "PC += offset if dst <= src", unsigned, at 64 bits (R250). -/
def execJle64K (dst : Reg) (imm : Imm) (off : Off) (s : State) : Outcome :=
  condJump64 condLe dst (.imm imm) off s

/-- JLE64_X: "PC += offset if dst <= src", unsigned, at 64 bits (R251). -/
def execJle64X (dst : Reg) (src : Reg) (off : Off) (s : State) : Outcome :=
  condJump64 condLe dst (.reg src) off s

/-- JLE32_K: "PC += offset if dst <= src", unsigned, at 32 bits (R252). -/
def execJle32K (dst : Reg) (imm : Imm) (off : Off) (s : State) : Outcome :=
  condJump32 condLe dst (.imm imm) off s

/-- JLE32_X: "PC += offset if dst <= src", unsigned, at 32 bits (R253). -/
def execJle32X (dst : Reg) (src : Reg) (off : Off) (s : State) : Outcome :=
  condJump32 condLe dst (.reg src) off s

/-- JSLT64_K: "PC += offset if dst < src", signed, at 64 bits (R254). -/
def execJslt64K (dst : Reg) (imm : Imm) (off : Off) (s : State) : Outcome :=
  condJump64 condSlt dst (.imm imm) off s

/-- JSLT64_X: "PC += offset if dst < src", signed, at 64 bits (R255). -/
def execJslt64X (dst : Reg) (src : Reg) (off : Off) (s : State) : Outcome :=
  condJump64 condSlt dst (.reg src) off s

/-- JSLT32_K: "PC += offset if dst < src", signed, at 32 bits (R256). -/
def execJslt32K (dst : Reg) (imm : Imm) (off : Off) (s : State) : Outcome :=
  condJump32 condSlt dst (.imm imm) off s

/-- JSLT32_X: "PC += offset if dst < src", signed, at 32 bits (R257). -/
def execJslt32X (dst : Reg) (src : Reg) (off : Off) (s : State) : Outcome :=
  condJump32 condSlt dst (.reg src) off s

/-- JSLE64_K: "PC += offset if dst <= src", signed, at 64 bits (R258). -/
def execJsle64K (dst : Reg) (imm : Imm) (off : Off) (s : State) : Outcome :=
  condJump64 condSle dst (.imm imm) off s

/-- JSLE64_X: "PC += offset if dst <= src", signed, at 64 bits (R259). -/
def execJsle64X (dst : Reg) (src : Reg) (off : Off) (s : State) : Outcome :=
  condJump64 condSle dst (.reg src) off s

/-- JSLE32_K: "PC += offset if dst <= src", signed, at 32 bits (R260). -/
def execJsle32K (dst : Reg) (imm : Imm) (off : Off) (s : State) : Outcome :=
  condJump32 condSle dst (.imm imm) off s

/-- JSLE32_X: "PC += offset if dst <= src", signed, at 32 bits (R261). -/
def execJsle32X (dst : Reg) (src : Reg) (off : Off) (s : State) : Outcome :=
  condJump32 condSle dst (.reg src) off s

/-- JA: "PC += offset" (R217). -/
def execJa (off : Off) (s : State) : Outcome :=
  .next (s.jump off.toInt)

end Sys2Proof.Machine
end

