-- ==== Sys2Proof/Machine/LoadStore.lean ====
section
/-! DEFINITION. The meanings of the regular loads and stores (spec/43_load_store.md). -/

namespace Sys2Proof.Machine

/-- LDX (R280 to R284): the base register, then the bytes, zero-extended (R282). -/
def loadReg (wd : Width) (dst : Dst) (src : Reg) (off : Off) (s : State) : Outcome :=
  settle s do
    let (base, s1) ← s.readReg src
    let (v, s2) ← s1.memRead (effAddr base off) wd
    return (s2.writeReg dst v).advance 1

/-- ST: `imm` sign-extended, its low bytes stored (R283). -/
def storeImm (wd : Width) (dst : Reg) (off : Off) (imm : Imm) (s : State) : Outcome :=
  settle s do
    let (base, s1) ← s.readReg dst
    let s2 ← s1.memWrite (effAddr base off) wd (immWord imm)
    return s2.advance 1

/-- STX: the low bytes of a register stored (spec/20_memory.md R55). -/
def storeReg (wd : Width) (dst src : Reg) (off : Off) (s : State) : Outcome :=
  settle s do
    let (base, s1) ← s.readReg dst
    let (v, s2) ← s1.readReg src
    let s3 ← s2.memWrite (effAddr base off) wd v
    return s3.advance 1

/-- LDX_W: "dst = *(size *) (src + offset)" (R285). -/
def execLdxW (dst : Dst) (src : Reg) (off : Off) (s : State) : Outcome :=
  loadReg .w dst src off s

/-- LDX_H: "dst = *(size *) (src + offset)" (R286). -/
def execLdxH (dst : Dst) (src : Reg) (off : Off) (s : State) : Outcome :=
  loadReg .h dst src off s

/-- LDX_B: "dst = *(size *) (src + offset)" (R287). -/
def execLdxB (dst : Dst) (src : Reg) (off : Off) (s : State) : Outcome :=
  loadReg .b dst src off s

/-- LDX_DW: "dst = *(size *) (src + offset)" (R288). -/
def execLdxDw (dst : Dst) (src : Reg) (off : Off) (s : State) : Outcome :=
  loadReg .dw dst src off s

/-- ST_W: "*(size *) (dst + offset) = imm32" (R289). -/
def execStW (dst : Reg) (off : Off) (imm : Imm) (s : State) : Outcome :=
  storeImm .w dst off imm s

/-- ST_H: "*(size *) (dst + offset) = imm32" (R290). -/
def execStH (dst : Reg) (off : Off) (imm : Imm) (s : State) : Outcome :=
  storeImm .h dst off imm s

/-- ST_B: "*(size *) (dst + offset) = imm32" (R291). -/
def execStB (dst : Reg) (off : Off) (imm : Imm) (s : State) : Outcome :=
  storeImm .b dst off imm s

/-- ST_DW: "*(size *) (dst + offset) = imm32" (R292). -/
def execStDw (dst : Reg) (off : Off) (imm : Imm) (s : State) : Outcome :=
  storeImm .dw dst off imm s

/-- STX_W: "*(size *) (dst + offset) = src" (R293). -/
def execStxW (dst : Reg) (src : Reg) (off : Off) (s : State) : Outcome :=
  storeReg .w dst src off s

/-- STX_H: "*(size *) (dst + offset) = src" (R294). -/
def execStxH (dst : Reg) (src : Reg) (off : Off) (s : State) : Outcome :=
  storeReg .h dst src off s

/-- STX_B: "*(size *) (dst + offset) = src" (R295). -/
def execStxB (dst : Reg) (src : Reg) (off : Off) (s : State) : Outcome :=
  storeReg .b dst src off s

/-- STX_DW: "*(size *) (dst + offset) = src" (R296). -/
def execStxDw (dst : Reg) (src : Reg) (off : Off) (s : State) : Outcome :=
  storeReg .dw dst src off s

end Sys2Proof.Machine
end

