-- ==== Sys2Proof/Machine/Step.lean ====
section
/-! DEFINITION. One step of the machine (spec/00_scope.md R10), and where the host places an instruction for it. -/

namespace Sys2Proof.Machine

/-- One step. A final status stays as it is: "After either, the state does not change" (spec/60_exceptions.md R382,
R384). A configuration R404 does not allow is refused (log 7). Otherwise the instruction at `pc` is fetched and
decoded, a fault of either is taken, and the instruction is run (spec/30_encoding.md R115). -/
def step (s : State) : Host.Outcome State Fault Refusal :=
  match s.status with
  | .running =>
    if s.configured then
      match s.fetch with
      | .ok i => exec i s
      | .error c => .next (s.raise c)
    else .refused .malformedConfiguration
  | .exited _ => .next s
  | .faulted _ _ => .next s

/-- `s` with an instruction stored where `step` fetches next (log 4): the platform's load of a program. -/
def State.withFetchWord (s : State) (nbits w : Nat) : State := s.placeWord nbits w

end Sys2Proof.Machine
end

