-- ==== Sys2Proof/Safety.lean ====
section
/-! DEFINITION. The terms claims use: final states, the machine's invariant, which registers and memory an instruction
may touch, which opcodes are reserved. -/

namespace Sys2Proof.Machine

/-- The run is over (spec/60_exceptions.md R382). -/
def State.final (s : State) : Bool :=
  match s.status with
  | .running => false
  | .exited _ => true
  | .faulted _ _ => true

/-- Each record of the call stack holds the frame pointer of the depth it returns to (spec/42_jump.md R263,
spec/20_memory.md R52). The newest record comes first, and returns to the depth of the records below it. -/
def framesSaveTops (p : Platform) : List Frame → Bool
  | [] => true
  | f :: fs => f.r10 == frameTop p fs.length && framesSaveTops p fs

/-- What every state of a run satisfies: memory keeps its canonical form and lies in the granted regions (R33), the
depth keeps its bound (spec/10_state.md R37), and R10 is `FRAME_TOP` of the depth, now and after each return (R52). -/
def State.inv (s : State) : Bool :=
  s.mem.wf
    && s.mem.all (fun c => granted s.platform c.1)
    && decide (s.frames.length ≤ s.platform.maxCallDepth)
    && s.r10 == frameTop s.platform s.frames.length
    && framesSaveTops s.platform s.frames

/-- The registers a helper call reads: those its relation reads, none if there is no such helper (R262). -/
def helperReads (s : State) (kind : HelperKind) (id : BitVec 32) : List Reg :=
  match findHelper s.platform kind id with
  | some h => h.reads.map argReg
  | none => []

/-- The registers an instruction reads, in the order it reads them (spec/10_state.md R24, the column "reads"). -/
def registersRead (s : State) : Instr → List Reg
  | .add32K dst _ => [dst.castSucc]
  | .add32X dst src => [dst.castSucc, src]
  | .add64K dst _ => [dst.castSucc]
  | .add64X dst src => [dst.castSucc, src]
  | .sub32K dst _ => [dst.castSucc]
  | .sub32X dst src => [dst.castSucc, src]
  | .sub64K dst _ => [dst.castSucc]
  | .sub64X dst src => [dst.castSucc, src]
  | .mul32K dst _ => [dst.castSucc]
  | .mul32X dst src => [dst.castSucc, src]
  | .mul64K dst _ => [dst.castSucc]
  | .mul64X dst src => [dst.castSucc, src]
  | .div32K dst _ => [dst.castSucc]
  | .div32X dst src => [src, dst.castSucc]
  | .div64K dst _ => [dst.castSucc]
  | .div64X dst src => [src, dst.castSucc]
  | .or32K dst _ => [dst.castSucc]
  | .or32X dst src => [dst.castSucc, src]
  | .or64K dst _ => [dst.castSucc]
  | .or64X dst src => [dst.castSucc, src]
  | .and32K dst _ => [dst.castSucc]
  | .and32X dst src => [dst.castSucc, src]
  | .and64K dst _ => [dst.castSucc]
  | .and64X dst src => [dst.castSucc, src]
  | .lsh32K dst _ => [dst.castSucc]
  | .lsh32X dst src => [dst.castSucc, src]
  | .lsh64K dst _ => [dst.castSucc]
  | .lsh64X dst src => [dst.castSucc, src]
  | .rsh32K dst _ => [dst.castSucc]
  | .rsh32X dst src => [dst.castSucc, src]
  | .rsh64K dst _ => [dst.castSucc]
  | .rsh64X dst src => [dst.castSucc, src]
  | .neg32K dst _ => if s.platform.variant.negOperand = .src then [] else [dst.castSucc]
  | .neg32X dst src => if s.platform.variant.negOperand = .src then [src] else [dst.castSucc]
  | .neg64K dst _ => if s.platform.variant.negOperand = .src then [] else [dst.castSucc]
  | .neg64X dst src => if s.platform.variant.negOperand = .src then [src] else [dst.castSucc]
  | .mod32K dst _ => [dst.castSucc]
  | .mod32X dst src => [src, dst.castSucc]
  | .mod64K dst _ => [dst.castSucc]
  | .mod64X dst src => [src, dst.castSucc]
  | .xor32K dst _ => [dst.castSucc]
  | .xor32X dst src => [dst.castSucc, src]
  | .xor64K dst _ => [dst.castSucc]
  | .xor64X dst src => [dst.castSucc, src]
  | .mov32K _ _ => []
  | .mov32X _ src => [src]
  | .mov64K _ _ => []
  | .mov64X _ src => [src]
  | .arsh32K dst _ => [dst.castSucc]
  | .arsh32X dst src => [dst.castSucc, src]
  | .arsh64K dst _ => [dst.castSucc]
  | .arsh64X dst src => [dst.castSucc, src]
  | .le16 dst => [dst.castSucc]
  | .le32 dst => [dst.castSucc]
  | .le64 dst => [dst.castSucc]
  | .be16 dst => [dst.castSucc]
  | .be32 dst => [dst.castSucc]
  | .be64 dst => [dst.castSucc]
  | .jeq64K dst _ _ => [dst]
  | .jeq64X dst src _ => [dst, src]
  | .jeq32K dst _ _ => [dst]
  | .jeq32X dst src _ => [dst, src]
  | .jgt64K dst _ _ => [dst]
  | .jgt64X dst src _ => [dst, src]
  | .jgt32K dst _ _ => [dst]
  | .jgt32X dst src _ => [dst, src]
  | .jge64K dst _ _ => [dst]
  | .jge64X dst src _ => [dst, src]
  | .jge32K dst _ _ => [dst]
  | .jge32X dst src _ => [dst, src]
  | .jset64K dst _ _ => [dst]
  | .jset64X dst src _ => [dst, src]
  | .jset32K dst _ _ => [dst]
  | .jset32X dst src _ => [dst, src]
  | .jne64K dst _ _ => [dst]
  | .jne64X dst src _ => [dst, src]
  | .jne32K dst _ _ => [dst]
  | .jne32X dst src _ => [dst, src]
  | .jsgt64K dst _ _ => [dst]
  | .jsgt64X dst src _ => [dst, src]
  | .jsgt32K dst _ _ => [dst]
  | .jsgt32X dst src _ => [dst, src]
  | .jsge64K dst _ _ => [dst]
  | .jsge64X dst src _ => [dst, src]
  | .jsge32K dst _ _ => [dst]
  | .jsge32X dst src _ => [dst, src]
  | .jlt64K dst _ _ => [dst]
  | .jlt64X dst src _ => [dst, src]
  | .jlt32K dst _ _ => [dst]
  | .jlt32X dst src _ => [dst, src]
  | .jle64K dst _ _ => [dst]
  | .jle64X dst src _ => [dst, src]
  | .jle32K dst _ _ => [dst]
  | .jle32X dst src _ => [dst, src]
  | .jslt64K dst _ _ => [dst]
  | .jslt64X dst src _ => [dst, src]
  | .jslt32K dst _ _ => [dst]
  | .jslt32X dst src _ => [dst, src]
  | .jsle64K dst _ _ => [dst]
  | .jsle64X dst src _ => [dst, src]
  | .jsle32K dst _ _ => [dst]
  | .jsle32X dst src _ => [dst, src]
  | .ja _ => []
  | .callHelper imm => helperReads s .byAddress imm
  | .callLocal _ => []
  | .callBtf imm => helperReads s .byBtfId imm
  | .exit => if s.frames = [] then [0] else []
  | .ldxW _ src _ => [src]
  | .ldxH _ src _ => [src]
  | .ldxB _ src _ => [src]
  | .ldxDw _ src _ => [src]
  | .stW dst _ _ => [dst]
  | .stH dst _ _ => [dst]
  | .stB dst _ _ => [dst]
  | .stDw dst _ _ => [dst]
  | .stxW dst src _ => [dst, src]
  | .stxH dst src _ => [dst, src]
  | .stxB dst src _ => [dst, src]
  | .stxDw dst src _ => [dst, src]
  | .atomicAddW dst src _ => [dst, src]
  | .atomicOrW dst src _ => [dst, src]
  | .atomicAndW dst src _ => [dst, src]
  | .atomicXorW dst src _ => [dst, src]
  | .atomicFetchAddW dst src _ => [dst, src.castSucc]
  | .atomicFetchOrW dst src _ => [dst, src.castSucc]
  | .atomicFetchAndW dst src _ => [dst, src.castSucc]
  | .atomicFetchXorW dst src _ => [dst, src.castSucc]
  | .atomicXchgW dst src _ => [dst, src.castSucc]
  | .atomicCmpxchgW dst src _ => [dst, 0, src]
  | .atomicAddDw dst src _ => [dst, src]
  | .atomicOrDw dst src _ => [dst, src]
  | .atomicAndDw dst src _ => [dst, src]
  | .atomicXorDw dst src _ => [dst, src]
  | .atomicFetchAddDw dst src _ => [dst, src.castSucc]
  | .atomicFetchOrDw dst src _ => [dst, src.castSucc]
  | .atomicFetchAndDw dst src _ => [dst, src.castSucc]
  | .atomicFetchXorDw dst src _ => [dst, src.castSucc]
  | .atomicXchgDw dst src _ => [dst, src.castSucc]
  | .atomicCmpxchgDw dst src _ => [dst, 0, src]
  | .ldImm64 _ _ _ => []
  | .ldMapFd _ _ => []
  | .ldMapValueFd _ _ _ => []
  | .ldVarAddr _ _ => []
  | .ldCodeAddr _ _ => []
  | .ldMapIdx _ _ => []
  | .ldMapValueIdx _ _ _ => []

/-- The registers of R0 to R9 an instruction may change: those it writes, and those that lose their value (R24, the
column "writes"). -/
def registersWritten : Instr → List Dst
  | .add32K dst _ => [dst]
  | .add32X dst _ => [dst]
  | .add64K dst _ => [dst]
  | .add64X dst _ => [dst]
  | .sub32K dst _ => [dst]
  | .sub32X dst _ => [dst]
  | .sub64K dst _ => [dst]
  | .sub64X dst _ => [dst]
  | .mul32K dst _ => [dst]
  | .mul32X dst _ => [dst]
  | .mul64K dst _ => [dst]
  | .mul64X dst _ => [dst]
  | .div32K dst _ => [dst]
  | .div32X dst _ => [dst]
  | .div64K dst _ => [dst]
  | .div64X dst _ => [dst]
  | .or32K dst _ => [dst]
  | .or32X dst _ => [dst]
  | .or64K dst _ => [dst]
  | .or64X dst _ => [dst]
  | .and32K dst _ => [dst]
  | .and32X dst _ => [dst]
  | .and64K dst _ => [dst]
  | .and64X dst _ => [dst]
  | .lsh32K dst _ => [dst]
  | .lsh32X dst _ => [dst]
  | .lsh64K dst _ => [dst]
  | .lsh64X dst _ => [dst]
  | .rsh32K dst _ => [dst]
  | .rsh32X dst _ => [dst]
  | .rsh64K dst _ => [dst]
  | .rsh64X dst _ => [dst]
  | .neg32K dst _ => [dst]
  | .neg32X dst _ => [dst]
  | .neg64K dst _ => [dst]
  | .neg64X dst _ => [dst]
  | .mod32K dst _ => [dst]
  | .mod32X dst _ => [dst]
  | .mod64K dst _ => [dst]
  | .mod64X dst _ => [dst]
  | .xor32K dst _ => [dst]
  | .xor32X dst _ => [dst]
  | .xor64K dst _ => [dst]
  | .xor64X dst _ => [dst]
  | .mov32K dst _ => [dst]
  | .mov32X dst _ => [dst]
  | .mov64K dst _ => [dst]
  | .mov64X dst _ => [dst]
  | .arsh32K dst _ => [dst]
  | .arsh32X dst _ => [dst]
  | .arsh64K dst _ => [dst]
  | .arsh64X dst _ => [dst]
  | .le16 dst => [dst]
  | .le32 dst => [dst]
  | .le64 dst => [dst]
  | .be16 dst => [dst]
  | .be32 dst => [dst]
  | .be64 dst => [dst]
  | .jeq64K _ _ _ => []
  | .jeq64X _ _ _ => []
  | .jeq32K _ _ _ => []
  | .jeq32X _ _ _ => []
  | .jgt64K _ _ _ => []
  | .jgt64X _ _ _ => []
  | .jgt32K _ _ _ => []
  | .jgt32X _ _ _ => []
  | .jge64K _ _ _ => []
  | .jge64X _ _ _ => []
  | .jge32K _ _ _ => []
  | .jge32X _ _ _ => []
  | .jset64K _ _ _ => []
  | .jset64X _ _ _ => []
  | .jset32K _ _ _ => []
  | .jset32X _ _ _ => []
  | .jne64K _ _ _ => []
  | .jne64X _ _ _ => []
  | .jne32K _ _ _ => []
  | .jne32X _ _ _ => []
  | .jsgt64K _ _ _ => []
  | .jsgt64X _ _ _ => []
  | .jsgt32K _ _ _ => []
  | .jsgt32X _ _ _ => []
  | .jsge64K _ _ _ => []
  | .jsge64X _ _ _ => []
  | .jsge32K _ _ _ => []
  | .jsge32X _ _ _ => []
  | .jlt64K _ _ _ => []
  | .jlt64X _ _ _ => []
  | .jlt32K _ _ _ => []
  | .jlt32X _ _ _ => []
  | .jle64K _ _ _ => []
  | .jle64X _ _ _ => []
  | .jle32K _ _ _ => []
  | .jle32X _ _ _ => []
  | .jslt64K _ _ _ => []
  | .jslt64X _ _ _ => []
  | .jslt32K _ _ _ => []
  | .jslt32X _ _ _ => []
  | .jsle64K _ _ _ => []
  | .jsle64X _ _ _ => []
  | .jsle32K _ _ _ => []
  | .jsle32X _ _ _ => []
  | .ja _ => []
  | .callHelper _ => [0, 1, 2, 3, 4, 5]
  | .callLocal _ => [0, 6, 7, 8, 9]
  | .callBtf _ => [0, 1, 2, 3, 4, 5]
  | .exit => [1, 2, 3, 4, 5, 6, 7, 8, 9]
  | .ldxW dst _ _ => [dst]
  | .ldxH dst _ _ => [dst]
  | .ldxB dst _ _ => [dst]
  | .ldxDw dst _ _ => [dst]
  | .stW _ _ _ => []
  | .stH _ _ _ => []
  | .stB _ _ _ => []
  | .stDw _ _ _ => []
  | .stxW _ _ _ => []
  | .stxH _ _ _ => []
  | .stxB _ _ _ => []
  | .stxDw _ _ _ => []
  | .atomicAddW _ _ _ => []
  | .atomicOrW _ _ _ => []
  | .atomicAndW _ _ _ => []
  | .atomicXorW _ _ _ => []
  | .atomicFetchAddW _ src _ => [src]
  | .atomicFetchOrW _ src _ => [src]
  | .atomicFetchAndW _ src _ => [src]
  | .atomicFetchXorW _ src _ => [src]
  | .atomicXchgW _ src _ => [src]
  | .atomicCmpxchgW _ _ _ => [0]
  | .atomicAddDw _ _ _ => []
  | .atomicOrDw _ _ _ => []
  | .atomicAndDw _ _ _ => []
  | .atomicXorDw _ _ _ => []
  | .atomicFetchAddDw _ src _ => [src]
  | .atomicFetchOrDw _ src _ => [src]
  | .atomicFetchAndDw _ src _ => [src]
  | .atomicFetchXorDw _ src _ => [src]
  | .atomicXchgDw _ src _ => [src]
  | .atomicCmpxchgDw _ _ _ => [0]
  | .ldImm64 dst _ _ => [dst]
  | .ldMapFd dst _ => [dst]
  | .ldMapValueFd dst _ _ => [dst]
  | .ldVarAddr dst _ => [dst]
  | .ldCodeAddr dst _ => [dst]
  | .ldMapIdx dst _ => [dst]
  | .ldMapValueIdx dst _ _ => [dst]

/-- Whether an instruction may change data memory: stores, atomic operations, helpers, and a local call, which takes
the values of the callee's frame away (spec/20_memory.md R50, R52, R73). -/
def changesMemory : Instr → Bool
  | .add32K _ _ => false
  | .add32X _ _ => false
  | .add64K _ _ => false
  | .add64X _ _ => false
  | .sub32K _ _ => false
  | .sub32X _ _ => false
  | .sub64K _ _ => false
  | .sub64X _ _ => false
  | .mul32K _ _ => false
  | .mul32X _ _ => false
  | .mul64K _ _ => false
  | .mul64X _ _ => false
  | .div32K _ _ => false
  | .div32X _ _ => false
  | .div64K _ _ => false
  | .div64X _ _ => false
  | .or32K _ _ => false
  | .or32X _ _ => false
  | .or64K _ _ => false
  | .or64X _ _ => false
  | .and32K _ _ => false
  | .and32X _ _ => false
  | .and64K _ _ => false
  | .and64X _ _ => false
  | .lsh32K _ _ => false
  | .lsh32X _ _ => false
  | .lsh64K _ _ => false
  | .lsh64X _ _ => false
  | .rsh32K _ _ => false
  | .rsh32X _ _ => false
  | .rsh64K _ _ => false
  | .rsh64X _ _ => false
  | .neg32K _ _ => false
  | .neg32X _ _ => false
  | .neg64K _ _ => false
  | .neg64X _ _ => false
  | .mod32K _ _ => false
  | .mod32X _ _ => false
  | .mod64K _ _ => false
  | .mod64X _ _ => false
  | .xor32K _ _ => false
  | .xor32X _ _ => false
  | .xor64K _ _ => false
  | .xor64X _ _ => false
  | .mov32K _ _ => false
  | .mov32X _ _ => false
  | .mov64K _ _ => false
  | .mov64X _ _ => false
  | .arsh32K _ _ => false
  | .arsh32X _ _ => false
  | .arsh64K _ _ => false
  | .arsh64X _ _ => false
  | .le16 _ => false
  | .le32 _ => false
  | .le64 _ => false
  | .be16 _ => false
  | .be32 _ => false
  | .be64 _ => false
  | .jeq64K _ _ _ => false
  | .jeq64X _ _ _ => false
  | .jeq32K _ _ _ => false
  | .jeq32X _ _ _ => false
  | .jgt64K _ _ _ => false
  | .jgt64X _ _ _ => false
  | .jgt32K _ _ _ => false
  | .jgt32X _ _ _ => false
  | .jge64K _ _ _ => false
  | .jge64X _ _ _ => false
  | .jge32K _ _ _ => false
  | .jge32X _ _ _ => false
  | .jset64K _ _ _ => false
  | .jset64X _ _ _ => false
  | .jset32K _ _ _ => false
  | .jset32X _ _ _ => false
  | .jne64K _ _ _ => false
  | .jne64X _ _ _ => false
  | .jne32K _ _ _ => false
  | .jne32X _ _ _ => false
  | .jsgt64K _ _ _ => false
  | .jsgt64X _ _ _ => false
  | .jsgt32K _ _ _ => false
  | .jsgt32X _ _ _ => false
  | .jsge64K _ _ _ => false
  | .jsge64X _ _ _ => false
  | .jsge32K _ _ _ => false
  | .jsge32X _ _ _ => false
  | .jlt64K _ _ _ => false
  | .jlt64X _ _ _ => false
  | .jlt32K _ _ _ => false
  | .jlt32X _ _ _ => false
  | .jle64K _ _ _ => false
  | .jle64X _ _ _ => false
  | .jle32K _ _ _ => false
  | .jle32X _ _ _ => false
  | .jslt64K _ _ _ => false
  | .jslt64X _ _ _ => false
  | .jslt32K _ _ _ => false
  | .jslt32X _ _ _ => false
  | .jsle64K _ _ _ => false
  | .jsle64X _ _ _ => false
  | .jsle32K _ _ _ => false
  | .jsle32X _ _ _ => false
  | .ja _ => false
  | .callHelper _ => true
  | .callLocal _ => true
  | .callBtf _ => true
  | .exit => false
  | .ldxW _ _ _ => false
  | .ldxH _ _ _ => false
  | .ldxB _ _ _ => false
  | .ldxDw _ _ _ => false
  | .stW _ _ _ => true
  | .stH _ _ _ => true
  | .stB _ _ _ => true
  | .stDw _ _ _ => true
  | .stxW _ _ _ => true
  | .stxH _ _ _ => true
  | .stxB _ _ _ => true
  | .stxDw _ _ _ => true
  | .atomicAddW _ _ _ => true
  | .atomicOrW _ _ _ => true
  | .atomicAndW _ _ _ => true
  | .atomicXorW _ _ _ => true
  | .atomicFetchAddW _ _ _ => true
  | .atomicFetchOrW _ _ _ => true
  | .atomicFetchAndW _ _ _ => true
  | .atomicFetchXorW _ _ _ => true
  | .atomicXchgW _ _ _ => true
  | .atomicCmpxchgW _ _ _ => true
  | .atomicAddDw _ _ _ => true
  | .atomicOrDw _ _ _ => true
  | .atomicAndDw _ _ _ => true
  | .atomicXorDw _ _ _ => true
  | .atomicFetchAddDw _ _ _ => true
  | .atomicFetchOrDw _ _ _ => true
  | .atomicFetchAndDw _ _ _ => true
  | .atomicFetchXorDw _ _ _ => true
  | .atomicXchgDw _ _ _ => true
  | .atomicCmpxchgDw _ _ _ => true
  | .ldImm64 _ _ _ => false
  | .ldMapFd _ _ => false
  | .ldMapValueFd _ _ _ => false
  | .ldVarAddr _ _ => false
  | .ldCodeAddr _ _ => false
  | .ldMapIdx _ _ => false
  | .ldMapValueIdx _ _ _ => false

/-- The base register, the displacement and the width of what a store or an atomic operation writes to memory (R58,
R60). -/
def storeTarget : Instr → Option (Reg × Off × Width)
  | .add32K _ _ => none
  | .add32X _ _ => none
  | .add64K _ _ => none
  | .add64X _ _ => none
  | .sub32K _ _ => none
  | .sub32X _ _ => none
  | .sub64K _ _ => none
  | .sub64X _ _ => none
  | .mul32K _ _ => none
  | .mul32X _ _ => none
  | .mul64K _ _ => none
  | .mul64X _ _ => none
  | .div32K _ _ => none
  | .div32X _ _ => none
  | .div64K _ _ => none
  | .div64X _ _ => none
  | .or32K _ _ => none
  | .or32X _ _ => none
  | .or64K _ _ => none
  | .or64X _ _ => none
  | .and32K _ _ => none
  | .and32X _ _ => none
  | .and64K _ _ => none
  | .and64X _ _ => none
  | .lsh32K _ _ => none
  | .lsh32X _ _ => none
  | .lsh64K _ _ => none
  | .lsh64X _ _ => none
  | .rsh32K _ _ => none
  | .rsh32X _ _ => none
  | .rsh64K _ _ => none
  | .rsh64X _ _ => none
  | .neg32K _ _ => none
  | .neg32X _ _ => none
  | .neg64K _ _ => none
  | .neg64X _ _ => none
  | .mod32K _ _ => none
  | .mod32X _ _ => none
  | .mod64K _ _ => none
  | .mod64X _ _ => none
  | .xor32K _ _ => none
  | .xor32X _ _ => none
  | .xor64K _ _ => none
  | .xor64X _ _ => none
  | .mov32K _ _ => none
  | .mov32X _ _ => none
  | .mov64K _ _ => none
  | .mov64X _ _ => none
  | .arsh32K _ _ => none
  | .arsh32X _ _ => none
  | .arsh64K _ _ => none
  | .arsh64X _ _ => none
  | .le16 _ => none
  | .le32 _ => none
  | .le64 _ => none
  | .be16 _ => none
  | .be32 _ => none
  | .be64 _ => none
  | .jeq64K _ _ _ => none
  | .jeq64X _ _ _ => none
  | .jeq32K _ _ _ => none
  | .jeq32X _ _ _ => none
  | .jgt64K _ _ _ => none
  | .jgt64X _ _ _ => none
  | .jgt32K _ _ _ => none
  | .jgt32X _ _ _ => none
  | .jge64K _ _ _ => none
  | .jge64X _ _ _ => none
  | .jge32K _ _ _ => none
  | .jge32X _ _ _ => none
  | .jset64K _ _ _ => none
  | .jset64X _ _ _ => none
  | .jset32K _ _ _ => none
  | .jset32X _ _ _ => none
  | .jne64K _ _ _ => none
  | .jne64X _ _ _ => none
  | .jne32K _ _ _ => none
  | .jne32X _ _ _ => none
  | .jsgt64K _ _ _ => none
  | .jsgt64X _ _ _ => none
  | .jsgt32K _ _ _ => none
  | .jsgt32X _ _ _ => none
  | .jsge64K _ _ _ => none
  | .jsge64X _ _ _ => none
  | .jsge32K _ _ _ => none
  | .jsge32X _ _ _ => none
  | .jlt64K _ _ _ => none
  | .jlt64X _ _ _ => none
  | .jlt32K _ _ _ => none
  | .jlt32X _ _ _ => none
  | .jle64K _ _ _ => none
  | .jle64X _ _ _ => none
  | .jle32K _ _ _ => none
  | .jle32X _ _ _ => none
  | .jslt64K _ _ _ => none
  | .jslt64X _ _ _ => none
  | .jslt32K _ _ _ => none
  | .jslt32X _ _ _ => none
  | .jsle64K _ _ _ => none
  | .jsle64X _ _ _ => none
  | .jsle32K _ _ _ => none
  | .jsle32X _ _ _ => none
  | .ja _ => none
  | .callHelper _ => none
  | .callLocal _ => none
  | .callBtf _ => none
  | .exit => none
  | .ldxW _ _ _ => none
  | .ldxH _ _ _ => none
  | .ldxB _ _ _ => none
  | .ldxDw _ _ _ => none
  | .stW dst off _ => some (dst, off, .w)
  | .stH dst off _ => some (dst, off, .h)
  | .stB dst off _ => some (dst, off, .b)
  | .stDw dst off _ => some (dst, off, .dw)
  | .stxW dst _ off => some (dst, off, .w)
  | .stxH dst _ off => some (dst, off, .h)
  | .stxB dst _ off => some (dst, off, .b)
  | .stxDw dst _ off => some (dst, off, .dw)
  | .atomicAddW dst _ off => some (dst, off, .w)
  | .atomicOrW dst _ off => some (dst, off, .w)
  | .atomicAndW dst _ off => some (dst, off, .w)
  | .atomicXorW dst _ off => some (dst, off, .w)
  | .atomicFetchAddW dst _ off => some (dst, off, .w)
  | .atomicFetchOrW dst _ off => some (dst, off, .w)
  | .atomicFetchAndW dst _ off => some (dst, off, .w)
  | .atomicFetchXorW dst _ off => some (dst, off, .w)
  | .atomicXchgW dst _ off => some (dst, off, .w)
  | .atomicCmpxchgW dst _ off => some (dst, off, .w)
  | .atomicAddDw dst _ off => some (dst, off, .dw)
  | .atomicOrDw dst _ off => some (dst, off, .dw)
  | .atomicAndDw dst _ off => some (dst, off, .dw)
  | .atomicXorDw dst _ off => some (dst, off, .dw)
  | .atomicFetchAddDw dst _ off => some (dst, off, .dw)
  | .atomicFetchOrDw dst _ off => some (dst, off, .dw)
  | .atomicFetchAndDw dst _ off => some (dst, off, .dw)
  | .atomicFetchXorDw dst _ off => some (dst, off, .dw)
  | .atomicXchgDw dst _ off => some (dst, off, .dw)
  | .atomicCmpxchgDw dst _ off => some (dst, off, .dw)
  | .ldImm64 _ _ _ => none
  | .ldMapFd _ _ => none
  | .ldMapValueFd _ _ _ => none
  | .ldVarAddr _ _ => none
  | .ldCodeAddr _ _ => none
  | .ldMapIdx _ _ => none
  | .ldMapValueIdx _ _ _ => none

/-- Whether an opcode is reserved, by class (spec/30_encoding.md R110): in the classes of loads and stores all but the
ones listed, in the others the ones listed. -/
def reservedOpcode (op : BitVec 8) : Bool :=
  match (op.extractLsb' 0 3).toNat with
  | 0 => op != 0x18
  | 1 => !([0x61, 0x69, 0x71, 0x79].contains op)
  | 2 => !([0x62, 0x6a, 0x72, 0x7a].contains op)
  | 3 => !([0x63, 0x6b, 0x73, 0x7b, 0xc3, 0xdb].contains op)
  | 4 => [0xe4, 0xec, 0xf4, 0xfc].contains op
  | 5 => [0x0d, 0x8d, 0x9d, 0xe5, 0xed, 0xf5, 0xfd].contains op
  | 6 => [0x06, 0x0e, 0x86, 0x8e, 0x96, 0x9e, 0xe6, 0xee, 0xf6, 0xfe].contains op
  | _ => [0xd7, 0xdf, 0xe7, 0xef, 0xf7, 0xff].contains op

/-- The machine is about to fetch the slot at `pc`: it runs, its configuration is one R404 allows, `pc` is in the
program. -/
def State.fetches (s : State) : Prop :=
  s.status = .running ∧ s.configured = true ∧ 0 ≤ s.pc ∧ s.pc < s.program.length

/-- The fields of the slot at `pc` (R95). -/
def State.slotHere (s : State) : Fields :=
  match slotFields s.platform.variant.endian (slotBytes (slotAt s.program s.pc.toNat)) with
  | some (f, _) => f
  | none => Fields.ofWord 0

/-- A load at this address takes this fault: a check fails, or one of the bytes has no value (R54, spec/20_memory.md
R52). -/
def State.loadFaults (s : State) (addr : Word) (wd : Width) (c : Cause) : Prop :=
  checkAccess s.platform .read (s.platform.misaligned == .fault) addr wd = .error c ∨
  checkAccess s.platform .read (s.platform.misaligned == .fault) addr wd = .ok () ∧
    s.loadBytes addr.toNat (widthBytes wd) = none ∧ c = .memoryFault addr wd .read

/-- An atomic operation at this address takes this fault: a check fails, for reading and then for writing and always of
the alignment, or one of the bytes has no value (R306, log 10). -/
def State.atomicFaults (s : State) (addr : Word) (wd : Width) (c : Cause) : Prop :=
  checkAccess s.platform .read true addr wd = .error c ∨
  checkAccess s.platform .read true addr wd = .ok () ∧
    (checkAccess s.platform .write true addr wd = .error c ∨
      checkAccess s.platform .write true addr wd = .ok () ∧
        s.seenBytes addr.toNat (widthBytes wd) = none ∧ c = .memoryFault addr wd .read)

end Sys2Proof.Machine
end

