-- ==== Sys2Proof/Certificates/Slice0/Obligations.lean ====
section
/-! DEFINITION. The statements for the provers. Each docstring says what the statement claims and which rules of
spec/ it formalises or rests on. -/

open Sys2Proof Sys2Proof.Machine

/-- For every variant of the machine, every well-formed instruction of all 146, with every operand at every value its
encoding admits, and every list of following bytes: decoding the encoded bytes answers that instruction and the
following bytes. (Rests on R91, R92, R95, R97, R106, R107, R108, R109.) -/
def Obligations.DecodeOfEncode : Prop :=
  ∀ (v : Variant) (i : Instr) (rest : List Byte),
    i.wellFormed v = true → decode v (encode v i ++ rest) = .ok (i, rest)

/-- For every variant and every list of bytes: if decoding answers an instruction and remaining bytes, the instruction
is well-formed and the bytes read were its encoding. So no bit of a slot is ignored, and two different slots never
decode to one instruction. (Rests on R95, R96, R105, R110, R111.) -/
def Obligations.EncodeOfDecode : Prop :=
  ∀ (v : Variant) (bytes rest : List Byte) (i : Instr),
    decode v bytes = .ok (i, rest) → i.wellFormed v = true ∧ bytes = encode v i ++ rest

/-- The bytes 07 01 00 00 44 33 22 11 in little-endian BPF and 07 10 00 00 11 22 33 44 in big-endian BPF decode to
ADD64_K r1, 0x11223344; the fields of both make the canonical word 0x1122334400000107. (States R119.) -/
def Obligations.WorkedExampleDecodes : Prop :=
  (∀ v : Variant, v.endian = .little →
      decode v [0x07, 0x01, 0x00, 0x00, 0x44, 0x33, 0x22, 0x11] = .ok (.add64K 1 0x11223344, [])) ∧
    (∀ v : Variant, v.endian = .big →
      decode v [0x07, 0x10, 0x00, 0x00, 0x11, 0x22, 0x33, 0x44] = .ok (.add64K 1 0x11223344, [])) ∧
    Fields.ofBytes .little 0x07 0x01 0x00 0x00 0x44 0x33 0x22 0x11 = ⟨0x07, 1, 0, 0, 0x11223344⟩ ∧
    Fields.ofBytes .big 0x07 0x10 0x00 0x00 0x11 0x22 0x33 0x44 = ⟨0x07, 1, 0, 0, 0x11223344⟩ ∧
    (Fields.ofBytes .little 0x07 0x01 0x00 0x00 0x44 0x33 0x22 0x11).word = 0x1122334400000107 ∧
    (Fields.ofBytes .big 0x07 0x10 0x00 0x00 0x11 0x22 0x33 0x44).word = 0x1122334400000107

/-- One word of each family, numbered as the opcode table numbers them and written out from the encoding its rule
gives, decodes to the instruction the rule names. (Rests on R194, R207, R217, R218, R263, R265, R288, R290, R295,
R321, R334.) -/
def Obligations.SampleWordsDecode : Prop :=
  decodeTableWord 64 0x00000000000060bf = some (.mov64X 0 6) ∧
    decodeTableWord 64 0x00000040000001dc = some (.be64 1) ∧
    decodeTableWord 64 0x00000000fffd0005 = some (.ja 0xfffd) ∧
    decodeTableWord 64 0x0000000500040115 = some (.jeq64K 1 5 4) ∧
    decodeTableWord 64 0x0000000000051085 = some (.callLocal 5) ∧
    decodeTableWord 64 0x0000000000000095 = some .exit ∧
    decodeTableWord 64 0x0000000000082179 = some (.ldxDw 1 2 8) ∧
    decodeTableWord 64 0xfffffffefff00a6a = some (.stH 10 0xfff0 0xfffffffe) ∧
    decodeTableWord 64 0x00000000fff81a73 = some (.stxB 10 1 0xfff8) ∧
    decodeTableWord 64 0x00000001fff81adb = some (.atomicFetchAddDw 10 1 0xfff8) ∧
    decodeTableWord 128 0x11223344000000005566778800000118 = some (.ldImm64 1 0x55667788 0x11223344)

/-- 140 of the 256 opcodes are reserved, by class as R110 lists them. In every running state that fetches a slot with
a reserved opcode, step takes IllegalInstruction and changes nothing else. Each of the other 116 opcodes is the first
byte of some instruction. (States R110.) -/
def Obligations.ReservedOpcodesAreIllegal : Prop :=
  ((List.range 256).filter fun n => reservedOpcode (BitVec.ofNat 8 n)).length = 140 ∧
    (∀ s : State, s.fetches → reservedOpcode s.slotHere.opcode = true →
      step s = .next (s.raise (.illegalInstruction (slotAt s.program s.pc.toNat) none))) ∧
    (∀ op : BitVec 8, reservedOpcode op = false →
      ∃ (v : Variant) (bytes rest : List Byte) (i : Instr), decode v (op :: bytes) = .ok (i, rest))

/-- In every running state that fetches a slot with opcode 0xd4 or 0xdc and an imm other than 16, 32 and 64, or a slot
with opcode 0xd7 or 0xdf, step takes IllegalInstruction and changes nothing else. (States R208, R209.) -/
def Obligations.OtherSwapWidthsAreIllegal : Prop :=
  ∀ s : State, s.fetches →
    ((s.slotHere.opcode = 0xd4 ∨ s.slotHere.opcode = 0xdc) ∧
        s.slotHere.imm ≠ 16 ∧ s.slotHere.imm ≠ 32 ∧ s.slotHere.imm ≠ 64 ∨
      s.slotHere.opcode = 0xd7 ∨ s.slotHere.opcode = 0xdf) →
    step s = .next (s.raise (.illegalInstruction (slotAt s.program s.pc.toNat) none))

/-- In every running state that fetches a slot with opcode 0x85 and src_reg from 3 to 15, or with opcode 0x8d, 0x86 or
0x8e, step takes IllegalInstruction and changes nothing else. (States R271.) -/
def Obligations.OtherCallKindsAreIllegal : Prop :=
  ∀ s : State, s.fetches →
    (s.slotHere.opcode = 0x85 ∧ 3 ≤ s.slotHere.src.toNat ∨
      s.slotHere.opcode = 0x8d ∨ s.slotHere.opcode = 0x86 ∨ s.slotHere.opcode = 0x8e) →
    step s = .next (s.raise (.illegalInstruction (slotAt s.program s.pc.toNat) none))

/-- In every running state that fetches a slot whose mode bits 7:5 are 1 or 2 in a load or store class (bits 2:0 from
0 to 3), step takes IllegalInstruction and changes nothing else. There are 32 such opcodes. (States R351.) -/
def Obligations.LegacyPacketOpcodesAreIllegal : Prop :=
  (∀ s : State, s.fetches →
      (s.slotHere.opcode.extractLsb' 5 3 = 1 ∨ s.slotHere.opcode.extractLsb' 5 3 = 2) →
      (s.slotHere.opcode.extractLsb' 0 3).toNat ≤ 3 →
      step s = .next (s.raise (.illegalInstruction (slotAt s.program s.pc.toNat) none))) ∧
    ((List.range 256).filter fun n =>
      (n / 32 == 1 || n / 32 == 2) && decide (n % 8 ≤ 3)).length = 32

/-- In every running state that fetches a slot with opcode 0xc3 or 0xdb whose imm is none of the ten of R109 (all 32
bits compared), or a slot with opcode 0xcb or 0xd3, step takes IllegalInstruction and changes nothing else. (Rests on
R109, R301.) -/
def Obligations.OtherAtomicSelectorsAreIllegal : Prop :=
  ∀ s : State, s.fetches →
    ((s.slotHere.opcode = 0xc3 ∨ s.slotHere.opcode = 0xdb) ∧
        s.slotHere.imm ∉ ([0x00, 0x01, 0x40, 0x41, 0x50, 0x51, 0xa0, 0xa1, 0xe1, 0xf1] : List Imm) ∨
      s.slotHere.opcode = 0xcb ∨ s.slotHere.opcode = 0xd3) →
    step s = .next (s.raise (.illegalInstruction (slotAt s.program s.pc.toNat) none))

/-- In every running state that fetches a slot (and, for opcode 0x18, has a second slot): a dst_reg above 10; a
src_reg above 10 where it is no call kind and no subtype; dst_reg 10 in the classes that write it (BPF_ALU, BPF_ALU64,
BPF_LDX, and opcode 0x18); and src_reg 10 in the atomic operations that write it (the four with the fetch modifier and
the exchange, at W and DW) make step take IllegalInstruction and change nothing else. (Rests on R22, R23, R24, R111,
R303.) -/
def Obligations.WrongRegisterNumbersAreIllegal : Prop :=
  ∀ s : State, s.fetches → (s.slotHere.opcode = 0x18 → s.pc + 1 < s.program.length) →
    (10 < s.slotHere.dst.toNat ∨
      s.slotHere.opcode ≠ 0x18 ∧ s.slotHere.opcode ≠ 0x85 ∧ 10 < s.slotHere.src.toNat ∨
      s.slotHere.dst = 10 ∧
        (s.slotHere.opcode.extractLsb' 0 3 = 4 ∨ s.slotHere.opcode.extractLsb' 0 3 = 7 ∨
          s.slotHere.opcode.extractLsb' 0 3 = 1 ∨ s.slotHere.opcode = 0x18) ∨
      s.slotHere.src = 10 ∧ (s.slotHere.opcode = 0xc3 ∨ s.slotHere.opcode = 0xdb) ∧
        s.slotHere.imm ∈ ([0x01, 0x41, 0x51, 0xa1, 0xe1] : List Imm)) →
    ∃ second : Option Slot,
      step s = .next (s.raise (.illegalInstruction (slotAt s.program s.pc.toNat) second))

/-- In every running state that fetches opcode 0x18 at pc: in the last slot it takes PcOutOfRange; with a second slot
whose opcode, register fields or offset is not zero, or with a subtype above 6, it takes IllegalInstruction with both
slots. A running state that fetches a slot whose opcode is 0x00 (the second slot of a wide instruction) takes
IllegalInstruction. (Rests on R97, R98, R331.) -/
def Obligations.WideInstructionChecks : Prop :=
  ∀ s : State, s.fetches →
    (s.slotHere.opcode = 0x18 → s.pc + 1 = s.program.length →
      step s = .next (s.raise (.pcOutOfRange s.pc))) ∧
    (s.slotHere.opcode = 0x18 → s.pc + 1 < s.program.length →
      (6 < s.slotHere.src.toNat ∨
        ({ s with pc := s.pc + 1 } : State).slotHere.opcode ≠ 0 ∨
        ({ s with pc := s.pc + 1 } : State).slotHere.dst ≠ 0 ∨
        ({ s with pc := s.pc + 1 } : State).slotHere.src ≠ 0 ∨
        ({ s with pc := s.pc + 1 } : State).slotHere.offset ≠ 0) →
      step s = .next (s.raise (.illegalInstruction (slotAt s.program s.pc.toNat)
        (some (slotAt s.program (s.pc.toNat + 1)))))) ∧
    (s.slotHere.opcode = 0x00 →
      step s = .next (s.raise (.illegalInstruction (slotAt s.program s.pc.toNat) none)))

/-- For every running state with an allowed configuration and pc in the program: if the bytes of the slot at pc (and
the one after it) decode to i, step answers exactly what exec of i answers; nothing is added around it. (Rests on R10,
R115, R410.) -/
def Obligations.StepRunsTheDecodedInstruction : Prop :=
  ∀ (s : State) (i : Instr) (rest : List Byte),
    s.fetches → decode s.platform.variant s.fetchBytes = .ok (i, rest) → step s = exec i s

/-- In every running state with an allowed configuration: if pc is negative or at least N, or a wide instruction
starts in the last slot, step takes PcOutOfRange with the value of pc and changes nothing else. So pc does not wrap,
and nothing runs beyond the program. (States R363.) -/
def Obligations.FetchOutsideTheProgramFaults : Prop :=
  (∀ s : State, s.status = .running → s.configured = true →
      (s.pc < 0 ∨ (s.program.length : Int) ≤ s.pc) → step s = .next (s.raise (.pcOutOfRange s.pc))) ∧
    (∀ s : State, s.fetches → s.slotHere.opcode = 0x18 → s.pc + 1 = s.program.length →
      step s = .next (s.raise (.pcOutOfRange s.pc)))

/-- In every running state that fetches: if decoding rejects the bytes at pc for any reason but a missing second slot,
step takes IllegalInstruction with the slot at pc (and the second slot for opcode 0x18); registers, memory, frames and
pc keep their values. (Rests on R115, R360, R362.) -/
def Obligations.IllegalEncodingsFault : Prop :=
  ∀ (s : State) (e : DecodeError), s.fetches →
    decode s.platform.variant s.fetchBytes = .error e → e ≠ .truncated →
    step s = .next { s with status := .faulted (.illegalInstruction (slotAt s.program s.pc.toNat)
      (if s.slotHere.opcode = 0x18 then some (slotAt s.program (s.pc.toNat + 1)) else none)) s.pc }

/-- For every running state: if step answers a next state, it is running, or it is exited with the value read from R0
and the instruction at pc was EXIT with frames empty, or it is the state before with only its status changed, to
faulted at pc. From a final status (exited or faulted) step answers the same state. (States R382, R374, R384.) -/
def Obligations.RunEndsInOneOfTwoWays : Prop :=
  (∀ s t : State, s.status = .running → step s = .next t →
      t.status = .running ∨
      (∃ v u, t.status = .exited v ∧ s.frames = [] ∧ s.fetch = .ok .exit ∧ s.readReg 0 = .ok (v, u)) ∨
      (∃ c, t = { s with status := .faulted c s.pc })) ∧
    (∀ s : State, s.status ≠ .running → step s = .next s)

/-- From every state with an allowed configuration or a final status, step answers a next state, or the fault 'helper
does not return' and then the instruction at pc is a helper call. A running state with a configuration R404 does not
allow is refused (the model's choice, log 7). (Rests on R10, R262, R404.) -/
def Obligations.StepAlwaysAnswers : Prop :=
  (∀ s : State, s.configured = true ∨ s.status ≠ .running →
      (∃ t, step s = .next t) ∨
      (∃ (kind : HelperKind) (id : Imm), step s = .fault (.helperDoesNotReturn kind id) ∧
        (s.fetch = .ok (.callHelper id) ∨ s.fetch = .ok (.callBtf id)))) ∧
    (∀ s : State, s.configured = false → s.status = .running → step s = .refused .malformedConfiguration)

/-- State.reset has pc 0, R10 = FRAME_TOP(0), no frames, status running and no byte of memory with a value, as R35
says. That R0 to R9 hold 0, that the program is empty and that the platform is the bare one are the model's choices
(log 2, 3, 4). (Rests on R35, R401.) -/
def Obligations.ResetValues : Prop :=
  State.reset.pc = 0 ∧ State.reset.r10 = frameTop State.reset.platform 0 ∧ State.reset.frames = [] ∧
    State.reset.status = .running ∧ (∀ a, State.reset.mem.read a = none) ∧
    (∀ r : Dst, State.reset.reg r.castSucc = .value 0) ∧
    State.reset.program = [] ∧ State.reset.platform = Platform.bare

/-- For every platform, program, five entry arguments and granted memory, State.enter has pc 0, R1 to R5 as given, R10
= FRAME_TOP(0), R0 and R6 to R9 unspecified, frames empty, status running; no byte of any stack frame has a value, and
every byte outside the stack frames is as the platform left it. (States R401.) -/
def Obligations.EntryState : Prop :=
  ∀ (p : Platform) (prog : List Slot) (a1 a2 a3 a4 a5 : RegVal) (m : Memory),
    (State.enter p prog a1 a2 a3 a4 a5 m).pc = 0 ∧
    (State.enter p prog a1 a2 a3 a4 a5 m).regs =
      #v[.unspecified, a1, a2, a3, a4, a5, .unspecified, .unspecified, .unspecified, .unspecified] ∧
    (State.enter p prog a1 a2 a3 a4 a5 m).r10 = frameTop p 0 ∧
    (State.enter p prog a1 a2 a3 a4 a5 m).frames = [] ∧
    (State.enter p prog a1 a2 a3 a4 a5 m).status = .running ∧
    (∀ d x, d ≤ p.maxCallDepth → (frameTop p d).toNat - p.stackSize ≤ x → x < (frameTop p d).toNat →
      (State.enter p prog a1 a2 a3 a4 a5 m).mem.read x = none) ∧
    (∀ x, (∀ d, d ≤ p.maxCallDepth → x < (frameTop p d).toNat - p.stackSize ∨ (frameTop p d).toNat ≤ x) →
      (State.enter p prog a1 a2 a3 a4 a5 m).mem.read x = m.read x)

/-- State.reset satisfies State.inv: memory in canonical form and inside the granted regions, depth within its bound,
R10 = FRAME_TOP of the depth, each record of the call stack holding the frame pointer of the depth it returns to. The
reset platform is the model's choice (log 2). (Rests on R35, R401.) -/
def Obligations.ResetKeepsTheInvariant : Prop :=
  State.reset.inv = true

/-- For every state that satisfies State.inv (memory in canonical form, every byte with a value in a granted region,
depth at most MAX_CALL_DEPTH, R10 = FRAME_TOP(depth), each record holding FRAME_TOP of the depth it returns to): if
step answers a next state, that state satisfies it too. (Rests on R30, R33, R37, R51, R52, R263, R265, R269.) -/
def Obligations.StepKeepsTheInvariant : Prop :=
  ∀ s t : State, s.inv = true → step s = .next t → t.inv = true

/-- For every platform R404 allows, every depth up to MAX_CALL_DEPTH and every range of bytes inside the frame of that
depth: reads and writes of the range are admitted, and no byte of it is shared. (Rests on R51, R52, R404.) -/
def Obligations.FramesArePrivateMemory : Prop :=
  ∀ (p : Platform) (d a n : Nat) (k : Access), platformOk p = true → d ≤ p.maxCallDepth →
    (frameTop p d).toNat - p.stackSize ≤ a → a + n ≤ (frameTop p d).toNat →
    admits p k a n = true ∧ (0 < n → isShared p a = false)

/-- For every state and register: a register that holds a value reads as that value and reading changes nothing; one
that holds none reads as a free value numbered by draws, which advances, where the platform draws, and is the fault
UninitialisedRegister of that register where it does not (R36 leaves a model the choice of the two; that the platform
makes it, and the numbering, are the model's choice, log 5). R10 always holds a value. A write of R0 to R9 gives that
register the value; every other register (R10 too) holds what it held, and nothing else differs. Advancing by n slots
adds n to pc and changes nothing else. (Rests on R8, R20, R22, R36, R367.) -/
def Obligations.RegisterAccess : Prop :=
  (∀ (s : State) (r : Reg),
      (∀ v, s.reg r = .value v → s.readReg r = .ok (v, s)) ∧
      (s.reg r = .unspecified → s.platform.noValue = .draw →
        s.readReg r = .ok (Config.freeWord s.draws.count, { s with draws := s.draws.next })) ∧
      (s.reg r = .unspecified → s.platform.noValue = .fault → s.readReg r = .error (.uninitialisedRegister r)) ∧
      s.reg 10 = .value s.r10) ∧
    (∀ (s : State) (d : Dst) (v : Word) (n : Int),
      (s.writeReg d v).reg d.castSucc = .value v ∧
      (∀ r : Reg, r ≠ d.castSucc → (s.writeReg d v).reg r = s.reg r) ∧
      s.writeReg d v = { s with regs := (s.writeReg d v).regs } ∧
      s.advance n = { s with pc := s.pc + n })

/-- For every instruction and state on a platform that does not draw values: if some register the instruction reads
(R24) holds no value, exec takes UninitialisedRegister of the first such register in the order of reading, and changes
nothing else. The order is the one in which the pseudocode reads them; four points of it are the model's: CMPXCHG (log
11), the arguments of a helper (log 8), a division by zero, which reads its destination (log 24), and the X forms of
NEG under NEG_OPERAND = dst, which no encoding reaches (log 14). (Rests on R24, R36, R367, R371.) -/
def Obligations.UnreadableRegistersFault : Prop :=
  ∀ (i : Instr) (s : State) (r : Reg), s.platform.noValue = .fault →
    (registersRead s i).find? (fun r => s.reg r == .unspecified) = some r →
    exec i s = .next (s.raise (.uninitialisedRegister r))

/-- For every state whose operands can be read, exec of ADD and SUB (32 and 64 bits, K and X) answers the state with
the destination holding the sum or difference modulo 2^32 or 2^64 and pc advanced by 1. The destination is read, then
a register operand; the 64-bit forms take the sign-extended imm or the register, the 32-bit forms the low halves, and
zero-extend the result. Exactly the destination and pc change (and draws, where a value is drawn: one for each operand
read, also where both are one register, which is the model's choice, log 25). (Rests on R147, R148, R149, R150, R151,
R152, R153, R154, R141, R142.) -/
def Obligations.AddAndSubtract : Prop :=
  ∀ (s s1 : State) (dst : Dst) (a : Word), s.readReg dst.castSucc = .ok (a, s1) →
    (∀ imm : Imm,
      exec (.add64K dst imm) s = .next ((s1.writeReg dst (a + imm.signExtend 64)).advance 1) ∧
      exec (.add32K dst imm) s = .next ((s1.writeReg dst ((a.setWidth 32 + imm).setWidth 64)).advance 1) ∧
      exec (.sub64K dst imm) s = .next ((s1.writeReg dst (a - imm.signExtend 64)).advance 1) ∧
      exec (.sub32K dst imm) s = .next ((s1.writeReg dst ((a.setWidth 32 - imm).setWidth 64)).advance 1)) ∧
    (∀ (src : Reg) (b : Word) (s2 : State), s1.readReg src = .ok (b, s2) →
      exec (.add64X dst src) s = .next ((s2.writeReg dst (a + b)).advance 1) ∧
      exec (.add32X dst src) s = .next ((s2.writeReg dst ((a.setWidth 32 + b.setWidth 32).setWidth 64)).advance 1) ∧
      exec (.sub64X dst src) s = .next ((s2.writeReg dst (a - b)).advance 1) ∧
      exec (.sub32X dst src) s = .next ((s2.writeReg dst ((a.setWidth 32 - b.setWidth 32).setWidth 64)).advance 1))

/-- For every state whose operands can be read, exec of MUL, DIV and MOD answers the state with the destination
holding the low bits of the product, the unsigned quotient (0 for a zero divisor) or the unsigned remainder (the
dividend for a zero divisor) and pc advanced by 1. MUL reads the destination and then a register operand; DIV and MOD
read the register operand first, as their pseudocode does (that they read the destination where the divisor is zero is
the model's reading of R24, log 24). The 64-bit forms take the sign-extended imm or the register, the 32-bit forms the
low halves, and zero-extend the result. Exactly the destination and pc change (and draws, where a value is drawn: one
for each operand read, also where both are one register, which is the model's choice, log 25). (Rests on R155, R156,
R157, R158, R159, R160, R161, R162, R183, R184, R185, R186.) -/
def Obligations.MultiplyDivideModulo : Prop :=
  (∀ (s s1 : State) (dst : Dst) (a : Word), s.readReg dst.castSucc = .ok (a, s1) →
      (∀ imm : Imm,
        exec (.mul64K dst imm) s = .next ((s1.writeReg dst (a * imm.signExtend 64)).advance 1) ∧
        exec (.mul32K dst imm) s = .next ((s1.writeReg dst ((a.setWidth 32 * imm).setWidth 64)).advance 1) ∧
        exec (.div64K dst imm) s = .next ((s1.writeReg dst (if imm.signExtend 64 = 0 then 0 else a / imm.signExtend 64)).advance 1) ∧
        exec (.div32K dst imm) s = .next ((s1.writeReg dst ((if imm = 0 then 0 else a.setWidth 32 / imm).setWidth 64)).advance 1) ∧
        exec (.mod64K dst imm) s = .next ((s1.writeReg dst (if imm.signExtend 64 = 0 then a else a % imm.signExtend 64)).advance 1) ∧
        exec (.mod32K dst imm) s = .next ((s1.writeReg dst ((if imm = 0 then a.setWidth 32 else a.setWidth 32 % imm).setWidth 64)).advance 1)) ∧
      (∀ (src : Reg) (b : Word) (s2 : State), s1.readReg src = .ok (b, s2) →
        exec (.mul64X dst src) s = .next ((s2.writeReg dst (a * b)).advance 1) ∧
        exec (.mul32X dst src) s = .next ((s2.writeReg dst ((a.setWidth 32 * b.setWidth 32).setWidth 64)).advance 1))) ∧
    (∀ (s s1 s2 : State) (dst : Dst) (src : Reg) (a b : Word), s.readReg src = .ok (b, s1) →
      s1.readReg dst.castSucc = .ok (a, s2) →
      exec (.div64X dst src) s = .next ((s2.writeReg dst (if b = 0 then 0 else a / b)).advance 1) ∧
      exec (.div32X dst src) s = .next ((s2.writeReg dst ((if b.setWidth 32 = 0 then 0 else a.setWidth 32 / b.setWidth 32).setWidth 64)).advance 1) ∧
      exec (.mod64X dst src) s = .next ((s2.writeReg dst (if b = 0 then a else a % b)).advance 1) ∧
      exec (.mod32X dst src) s = .next ((s2.writeReg dst ((if b.setWidth 32 = 0 then a.setWidth 32 else a.setWidth 32 % b.setWidth 32).setWidth 64)).advance 1))

/-- For every state whose operands can be read, exec of OR, AND and XOR answers the state with the destination holding
the bitwise result and pc advanced by 1. The destination is read, then a register operand; the 64-bit forms take the
sign-extended imm or the register, the 32-bit forms the low halves, and zero-extend the result. Exactly the
destination and pc change (and draws, where a value is drawn: one for each operand read, also where both are one
register, which is the model's choice, log 25). (Rests on R163, R164, R165, R166, R167, R168, R169, R170, R187, R188,
R189, R190.) -/
def Obligations.OrAndXor : Prop :=
  ∀ (s s1 : State) (dst : Dst) (a : Word), s.readReg dst.castSucc = .ok (a, s1) →
    (∀ imm : Imm,
      exec (.or64K dst imm) s = .next ((s1.writeReg dst (a ||| imm.signExtend 64)).advance 1) ∧
      exec (.or32K dst imm) s = .next ((s1.writeReg dst ((a.setWidth 32 ||| imm).setWidth 64)).advance 1) ∧
      exec (.and64K dst imm) s = .next ((s1.writeReg dst (a &&& imm.signExtend 64)).advance 1) ∧
      exec (.and32K dst imm) s = .next ((s1.writeReg dst ((a.setWidth 32 &&& imm).setWidth 64)).advance 1) ∧
      exec (.xor64K dst imm) s = .next ((s1.writeReg dst (a ^^^ imm.signExtend 64)).advance 1) ∧
      exec (.xor32K dst imm) s = .next ((s1.writeReg dst ((a.setWidth 32 ^^^ imm).setWidth 64)).advance 1)) ∧
    (∀ (src : Reg) (b : Word) (s2 : State), s1.readReg src = .ok (b, s2) →
      exec (.or64X dst src) s = .next ((s2.writeReg dst (a ||| b)).advance 1) ∧
      exec (.or32X dst src) s = .next ((s2.writeReg dst ((a.setWidth 32 ||| b.setWidth 32).setWidth 64)).advance 1) ∧
      exec (.and64X dst src) s = .next ((s2.writeReg dst (a &&& b)).advance 1) ∧
      exec (.and32X dst src) s = .next ((s2.writeReg dst ((a.setWidth 32 &&& b.setWidth 32).setWidth 64)).advance 1) ∧
      exec (.xor64X dst src) s = .next ((s2.writeReg dst (a ^^^ b)).advance 1) ∧
      exec (.xor32X dst src) s = .next ((s2.writeReg dst ((a.setWidth 32 ^^^ b.setWidth 32).setWidth 64)).advance 1))

/-- For every state whose operands can be read, exec of LSH, RSH and ARSH answers the state with the destination
shifted left, right with zeros, or right with copies of the top bit, by the operand modulo 64 or 32, and pc advanced
by 1. The destination is read, then a register operand; the 64-bit forms take the sign-extended imm or the register,
the 32-bit forms the low halves, and zero-extend the result. Exactly the destination and pc change (and draws, where a
value is drawn: one for each operand read, also where both are one register, which is the model's choice, log 25).
(Rests on R171, R172, R173, R174, R175, R176, R177, R178, R195, R196, R197, R198.) -/
def Obligations.ShiftsAreMasked : Prop :=
  ∀ (s s1 : State) (dst : Dst) (a : Word), s.readReg dst.castSucc = .ok (a, s1) →
    (∀ imm : Imm,
      exec (.lsh64K dst imm) s = .next ((s1.writeReg dst (a <<< ((imm.signExtend 64).toNat % 64))).advance 1) ∧
      exec (.lsh32K dst imm) s = .next ((s1.writeReg dst (((a.setWidth 32) <<< ((imm).toNat % 32)).setWidth 64)).advance 1) ∧
      exec (.rsh64K dst imm) s = .next ((s1.writeReg dst (a >>> ((imm.signExtend 64).toNat % 64))).advance 1) ∧
      exec (.rsh32K dst imm) s = .next ((s1.writeReg dst (((a.setWidth 32) >>> ((imm).toNat % 32)).setWidth 64)).advance 1) ∧
      exec (.arsh64K dst imm) s = .next ((s1.writeReg dst (a.sshiftRight ((imm.signExtend 64).toNat % 64))).advance 1) ∧
      exec (.arsh32K dst imm) s = .next ((s1.writeReg dst (((a.setWidth 32).sshiftRight ((imm).toNat % 32)).setWidth 64)).advance 1)) ∧
    (∀ (src : Reg) (b : Word) (s2 : State), s1.readReg src = .ok (b, s2) →
      exec (.lsh64X dst src) s = .next ((s2.writeReg dst (a <<< ((b).toNat % 64))).advance 1) ∧
      exec (.lsh32X dst src) s = .next ((s2.writeReg dst (((a.setWidth 32) <<< ((b.setWidth 32).toNat % 32)).setWidth 64)).advance 1) ∧
      exec (.rsh64X dst src) s = .next ((s2.writeReg dst (a >>> ((b).toNat % 64))).advance 1) ∧
      exec (.rsh32X dst src) s = .next ((s2.writeReg dst (((a.setWidth 32) >>> ((b.setWidth 32).toNat % 32)).setWidth 64)).advance 1) ∧
      exec (.arsh64X dst src) s = .next ((s2.writeReg dst (a.sshiftRight ((b).toNat % 64))).advance 1) ∧
      exec (.arsh32X dst src) s = .next ((s2.writeReg dst (((a.setWidth 32).sshiftRight ((b.setWidth 32).toNat % 32)).setWidth 64)).advance 1))

/-- For every state: under NEG_OPERAND = src exec of NEG negates imm (K) or the register src_reg (X) and does not read
the destination; under NEG_OPERAND = dst the K forms negate the destination (what the X forms do there is the model's
choice, log 14: no encoding reaches them). The result is modulo 2^64, or modulo 2^32 and zero-extended; pc advances by
1. (Rests on R146, R179, R180, R181, R182.) -/
def Obligations.NegateByParameter : Prop :=
  ∀ (s : State) (dst : Dst),
    (s.platform.variant.negOperand = .src →
      (∀ imm : Imm,
        exec (.neg64K dst imm) s = .next ((s.writeReg dst (0 - imm.signExtend 64)).advance 1) ∧
        exec (.neg32K dst imm) s = .next ((s.writeReg dst ((0 - imm).setWidth 64)).advance 1)) ∧
      (∀ (src : Reg) (b : Word) (s1 : State), s.readReg src = .ok (b, s1) →
        exec (.neg64X dst src) s = .next ((s1.writeReg dst (0 - b)).advance 1) ∧
        exec (.neg32X dst src) s = .next ((s1.writeReg dst ((0 - b.setWidth 32).setWidth 64)).advance 1))) ∧
    (s.platform.variant.negOperand = .dst →
      ∀ (imm : Imm) (src : Reg) (a : Word) (s1 : State), s.readReg dst.castSucc = .ok (a, s1) →
        exec (.neg64K dst imm) s = .next ((s1.writeReg dst (0 - a)).advance 1) ∧
        exec (.neg32K dst imm) s = .next ((s1.writeReg dst ((0 - a.setWidth 32).setWidth 64)).advance 1) ∧
        exec (.neg64X dst src) s = .next ((s1.writeReg dst (0 - a)).advance 1) ∧
        exec (.neg32X dst src) s = .next ((s1.writeReg dst ((0 - a.setWidth 32).setWidth 64)).advance 1))

/-- For every state: exec of MOV writes the sign-extended imm, the zero-extended imm, the register or the
zero-extended low half of the register to the destination, advances pc by 1 and changes nothing else (but draws, where
the source register holds no value and one is drawn). The destination is not read. (Rests on R191, R192, R193, R194.)
-/
def Obligations.MoveCopies : Prop :=
  ∀ (s : State) (dst : Dst),
    (∀ imm : Imm,
      exec (.mov64K dst imm) s = .next ((s.writeReg dst (imm.signExtend 64)).advance 1) ∧
      exec (.mov32K dst imm) s = .next ((s.writeReg dst (imm.setWidth 64)).advance 1)) ∧
    (∀ (src : Reg) (b : Word) (s1 : State), s.readReg src = .ok (b, s1) →
      exec (.mov64X dst src) s = .next ((s1.writeReg dst b).advance 1) ∧
      exec (.mov32X dst src) s = .next ((s1.writeReg dst ((b.setWidth 32).setWidth 64)).advance 1))

/-- For every state whose destination can be read: where the named order is the host order (LE on little, BE on big)
the low 16, 32 or 64 bits are kept, zero-extended; where it is not, their bytes are reversed (written here as a
concatenation of the bytes), zero-extended. pc advances by 1; exactly the destination and pc change. (Rests on R201,
R202, R203, R204, R205, R206, R207.) -/
def Obligations.ByteSwapsByHostOrder : Prop :=
  ∀ (s s1 : State) (dst : Dst) (a : Word), s.readReg dst.castSucc = .ok (a, s1) →
    (s.platform.variant.endian = .little →
      exec (.le16 dst) s = .next ((s1.writeReg dst ((a.setWidth 16).setWidth 64)).advance 1) ∧
      exec (.le32 dst) s = .next ((s1.writeReg dst ((a.setWidth 32).setWidth 64)).advance 1) ∧
      exec (.le64 dst) s = .next ((s1.writeReg dst a).advance 1) ∧
      exec (.be16 dst) s = .next ((s1.writeReg dst ((a.extractLsb' 0 8 ++ a.extractLsb' 8 8).setWidth 64)).advance 1) ∧
      exec (.be32 dst) s = .next ((s1.writeReg dst ((a.extractLsb' 0 8 ++ a.extractLsb' 8 8 ++ a.extractLsb' 16 8 ++ a.extractLsb' 24 8).setWidth 64)).advance 1) ∧
      exec (.be64 dst) s = .next ((s1.writeReg dst (a.extractLsb' 0 8 ++ a.extractLsb' 8 8 ++ a.extractLsb' 16 8 ++ a.extractLsb' 24 8 ++
        a.extractLsb' 32 8 ++ a.extractLsb' 40 8 ++ a.extractLsb' 48 8 ++ a.extractLsb' 56 8)).advance 1)) ∧
    (s.platform.variant.endian = .big →
      exec (.be16 dst) s = .next ((s1.writeReg dst ((a.setWidth 16).setWidth 64)).advance 1) ∧
      exec (.be32 dst) s = .next ((s1.writeReg dst ((a.setWidth 32).setWidth 64)).advance 1) ∧
      exec (.be64 dst) s = .next ((s1.writeReg dst a).advance 1) ∧
      exec (.le16 dst) s = .next ((s1.writeReg dst ((a.extractLsb' 0 8 ++ a.extractLsb' 8 8).setWidth 64)).advance 1) ∧
      exec (.le32 dst) s = .next ((s1.writeReg dst ((a.extractLsb' 0 8 ++ a.extractLsb' 8 8 ++ a.extractLsb' 16 8 ++ a.extractLsb' 24 8).setWidth 64)).advance 1) ∧
      exec (.le64 dst) s = .next ((s1.writeReg dst (a.extractLsb' 0 8 ++ a.extractLsb' 8 8 ++ a.extractLsb' 16 8 ++ a.extractLsb' 24 8 ++
        a.extractLsb' 32 8 ++ a.extractLsb' 40 8 ++ a.extractLsb' 48 8 ++ a.extractLsb' 56 8)).advance 1))

/-- For every state whose operands can be read, exec of JEQ, JNE and JSET takes the jump exactly if the operands are
equal, different, or share a set bit. The 64-bit forms compare the register with the sign-extended imm or the source
register, the 32-bit forms the low halves. A taken jump sets pc to pc + 1 + offset (signed), one not taken to pc + 1;
a target outside the program is not checked here (R214). Nothing else changes but draws, where a value is drawn: one
for each operand read, also where both are one register, which is the model's choice (log 25). (Rests on R218, R219,
R220, R221, R230, R231, R232, R233, R234, R235, R236, R237.) -/
def Obligations.JumpsOnEqualityAndBits : Prop :=
  (∀ (s s1 : State) (dst : Reg) (off : Off) (a : Word), s.readReg dst = .ok (a, s1) →
      (∀ imm : Imm,
        exec (.jeq64K dst imm off) s = .next { s1 with pc := if a = (imm.signExtend 64) then s1.pc + 1 + off.toInt else s1.pc + 1 } ∧
        exec (.jeq32K dst imm off) s = .next { s1 with pc := if (a.setWidth 32) = imm then s1.pc + 1 + off.toInt else s1.pc + 1 } ∧
        exec (.jne64K dst imm off) s = .next { s1 with pc := if a ≠ (imm.signExtend 64) then s1.pc + 1 + off.toInt else s1.pc + 1 } ∧
        exec (.jne32K dst imm off) s = .next { s1 with pc := if (a.setWidth 32) ≠ imm then s1.pc + 1 + off.toInt else s1.pc + 1 } ∧
        exec (.jset64K dst imm off) s = .next { s1 with pc := if a &&& (imm.signExtend 64) ≠ 0 then s1.pc + 1 + off.toInt else s1.pc + 1 } ∧
        exec (.jset32K dst imm off) s = .next { s1 with pc := if (a.setWidth 32) &&& imm ≠ 0 then s1.pc + 1 + off.toInt else s1.pc + 1 }) ∧
      (∀ (src : Reg) (b : Word) (s2 : State), s1.readReg src = .ok (b, s2) →
        exec (.jeq64X dst src off) s = .next { s2 with pc := if a = b then s2.pc + 1 + off.toInt else s2.pc + 1 } ∧
        exec (.jeq32X dst src off) s = .next { s2 with pc := if (a.setWidth 32) = (b.setWidth 32) then s2.pc + 1 + off.toInt else s2.pc + 1 } ∧
        exec (.jne64X dst src off) s = .next { s2 with pc := if a ≠ b then s2.pc + 1 + off.toInt else s2.pc + 1 } ∧
        exec (.jne32X dst src off) s = .next { s2 with pc := if (a.setWidth 32) ≠ (b.setWidth 32) then s2.pc + 1 + off.toInt else s2.pc + 1 } ∧
        exec (.jset64X dst src off) s = .next { s2 with pc := if a &&& b ≠ 0 then s2.pc + 1 + off.toInt else s2.pc + 1 } ∧
        exec (.jset32X dst src off) s = .next { s2 with pc := if (a.setWidth 32) &&& (b.setWidth 32) ≠ 0 then s2.pc + 1 + off.toInt else s2.pc + 1 }))

/-- For every state whose operands can be read, exec of JGT, JGE and JLT takes the jump exactly if the destination is
above, at least, or below the source as unsigned numbers of the width. The 64-bit forms compare the register with the
sign-extended imm or the source register, the 32-bit forms the low halves. A taken jump sets pc to pc + 1 + offset
(signed), one not taken to pc + 1; a target outside the program is not checked here (R214). Nothing else changes but
draws, where a value is drawn: one for each operand read, also where both are one register, which is the model's
choice (log 25). (Rests on R222, R223, R224, R225, R226, R227, R228, R229, R246, R247, R248, R249.) -/
def Obligations.JumpsOnUnsignedGreaterOrLess : Prop :=
  (∀ (s s1 : State) (dst : Reg) (off : Off) (a : Word), s.readReg dst = .ok (a, s1) →
      (∀ imm : Imm,
        exec (.jgt64K dst imm off) s = .next { s1 with pc := if (imm.signExtend 64).toNat < a.toNat then s1.pc + 1 + off.toInt else s1.pc + 1 } ∧
        exec (.jgt32K dst imm off) s = .next { s1 with pc := if imm.toNat < (a.setWidth 32).toNat then s1.pc + 1 + off.toInt else s1.pc + 1 } ∧
        exec (.jge64K dst imm off) s = .next { s1 with pc := if (imm.signExtend 64).toNat ≤ a.toNat then s1.pc + 1 + off.toInt else s1.pc + 1 } ∧
        exec (.jge32K dst imm off) s = .next { s1 with pc := if imm.toNat ≤ (a.setWidth 32).toNat then s1.pc + 1 + off.toInt else s1.pc + 1 } ∧
        exec (.jlt64K dst imm off) s = .next { s1 with pc := if a.toNat < (imm.signExtend 64).toNat then s1.pc + 1 + off.toInt else s1.pc + 1 } ∧
        exec (.jlt32K dst imm off) s = .next { s1 with pc := if (a.setWidth 32).toNat < imm.toNat then s1.pc + 1 + off.toInt else s1.pc + 1 }) ∧
      (∀ (src : Reg) (b : Word) (s2 : State), s1.readReg src = .ok (b, s2) →
        exec (.jgt64X dst src off) s = .next { s2 with pc := if b.toNat < a.toNat then s2.pc + 1 + off.toInt else s2.pc + 1 } ∧
        exec (.jgt32X dst src off) s = .next { s2 with pc := if (b.setWidth 32).toNat < (a.setWidth 32).toNat then s2.pc + 1 + off.toInt else s2.pc + 1 } ∧
        exec (.jge64X dst src off) s = .next { s2 with pc := if b.toNat ≤ a.toNat then s2.pc + 1 + off.toInt else s2.pc + 1 } ∧
        exec (.jge32X dst src off) s = .next { s2 with pc := if (b.setWidth 32).toNat ≤ (a.setWidth 32).toNat then s2.pc + 1 + off.toInt else s2.pc + 1 } ∧
        exec (.jlt64X dst src off) s = .next { s2 with pc := if a.toNat < b.toNat then s2.pc + 1 + off.toInt else s2.pc + 1 } ∧
        exec (.jlt32X dst src off) s = .next { s2 with pc := if (a.setWidth 32).toNat < (b.setWidth 32).toNat then s2.pc + 1 + off.toInt else s2.pc + 1 }))

/-- For every state whose operands can be read, exec of JLE takes the jump exactly if the destination is at most the
source unsigned, JSGT and JSGE exactly if it is greater, or at least, signed at the width. The 64-bit forms compare
the register with the sign-extended imm or the source register, the 32-bit forms the low halves. A taken jump sets pc
to pc + 1 + offset (signed), one not taken to pc + 1; a target outside the program is not checked here (R214). Nothing
else changes but draws, where a value is drawn: one for each operand read, also where both are one register, which is
the model's choice (log 25). (Rests on R250, R251, R252, R253, R238, R239, R240, R241, R242, R243, R244, R245.) -/
def Obligations.JumpsOnSignedGreaterAndUnsignedAtMost : Prop :=
  (∀ (s s1 : State) (dst : Reg) (off : Off) (a : Word), s.readReg dst = .ok (a, s1) →
      (∀ imm : Imm,
        exec (.jle64K dst imm off) s = .next { s1 with pc := if a.toNat ≤ (imm.signExtend 64).toNat then s1.pc + 1 + off.toInt else s1.pc + 1 } ∧
        exec (.jle32K dst imm off) s = .next { s1 with pc := if (a.setWidth 32).toNat ≤ imm.toNat then s1.pc + 1 + off.toInt else s1.pc + 1 } ∧
        exec (.jsgt64K dst imm off) s = .next { s1 with pc := if (imm.signExtend 64).toInt < a.toInt then s1.pc + 1 + off.toInt else s1.pc + 1 } ∧
        exec (.jsgt32K dst imm off) s = .next { s1 with pc := if imm.toInt < (a.setWidth 32).toInt then s1.pc + 1 + off.toInt else s1.pc + 1 } ∧
        exec (.jsge64K dst imm off) s = .next { s1 with pc := if (imm.signExtend 64).toInt ≤ a.toInt then s1.pc + 1 + off.toInt else s1.pc + 1 } ∧
        exec (.jsge32K dst imm off) s = .next { s1 with pc := if imm.toInt ≤ (a.setWidth 32).toInt then s1.pc + 1 + off.toInt else s1.pc + 1 }) ∧
      (∀ (src : Reg) (b : Word) (s2 : State), s1.readReg src = .ok (b, s2) →
        exec (.jle64X dst src off) s = .next { s2 with pc := if a.toNat ≤ b.toNat then s2.pc + 1 + off.toInt else s2.pc + 1 } ∧
        exec (.jle32X dst src off) s = .next { s2 with pc := if (a.setWidth 32).toNat ≤ (b.setWidth 32).toNat then s2.pc + 1 + off.toInt else s2.pc + 1 } ∧
        exec (.jsgt64X dst src off) s = .next { s2 with pc := if b.toInt < a.toInt then s2.pc + 1 + off.toInt else s2.pc + 1 } ∧
        exec (.jsgt32X dst src off) s = .next { s2 with pc := if (b.setWidth 32).toInt < (a.setWidth 32).toInt then s2.pc + 1 + off.toInt else s2.pc + 1 } ∧
        exec (.jsge64X dst src off) s = .next { s2 with pc := if b.toInt ≤ a.toInt then s2.pc + 1 + off.toInt else s2.pc + 1 } ∧
        exec (.jsge32X dst src off) s = .next { s2 with pc := if (b.setWidth 32).toInt ≤ (a.setWidth 32).toInt then s2.pc + 1 + off.toInt else s2.pc + 1 }))

/-- For every state whose operands can be read, exec of JSLT and JSLE takes the jump exactly if the destination is
less than, or at most, the source, signed at the width; JA always jumps to pc + 1 + offset and reads nothing. The
64-bit forms compare the register with the sign-extended imm or the source register, the 32-bit forms the low halves.
A taken jump sets pc to pc + 1 + offset (signed), one not taken to pc + 1; a target outside the program is not checked
here (R214). Nothing else changes but draws, where a value is drawn: one for each operand read, also where both are
one register, which is the model's choice (log 25). (Rests on R254, R255, R256, R257, R258, R259, R260, R261, R217,
R210.) -/
def Obligations.JumpsOnSignedLessAndAlways : Prop :=
  (∀ (s s1 : State) (dst : Reg) (off : Off) (a : Word), s.readReg dst = .ok (a, s1) →
      (∀ imm : Imm,
        exec (.jslt64K dst imm off) s = .next { s1 with pc := if a.toInt < (imm.signExtend 64).toInt then s1.pc + 1 + off.toInt else s1.pc + 1 } ∧
        exec (.jslt32K dst imm off) s = .next { s1 with pc := if (a.setWidth 32).toInt < imm.toInt then s1.pc + 1 + off.toInt else s1.pc + 1 } ∧
        exec (.jsle64K dst imm off) s = .next { s1 with pc := if a.toInt ≤ (imm.signExtend 64).toInt then s1.pc + 1 + off.toInt else s1.pc + 1 } ∧
        exec (.jsle32K dst imm off) s = .next { s1 with pc := if (a.setWidth 32).toInt ≤ imm.toInt then s1.pc + 1 + off.toInt else s1.pc + 1 }) ∧
      (∀ (src : Reg) (b : Word) (s2 : State), s1.readReg src = .ok (b, s2) →
        exec (.jslt64X dst src off) s = .next { s2 with pc := if a.toInt < b.toInt then s2.pc + 1 + off.toInt else s2.pc + 1 } ∧
        exec (.jslt32X dst src off) s = .next { s2 with pc := if (a.setWidth 32).toInt < (b.setWidth 32).toInt then s2.pc + 1 + off.toInt else s2.pc + 1 } ∧
        exec (.jsle64X dst src off) s = .next { s2 with pc := if a.toInt ≤ b.toInt then s2.pc + 1 + off.toInt else s2.pc + 1 } ∧
        exec (.jsle32X dst src off) s = .next { s2 with pc := if (a.setWidth 32).toInt ≤ (b.setWidth 32).toInt then s2.pc + 1 + off.toInt else s2.pc + 1 })) ∧
    (∀ (s : State) (off : Off), exec (.ja off) s = .next { s with pc := s.pc + 1 + off.toInt })

/-- For every state, both kinds of helper call and every helper the platform has: if the argument registers its
relation reads can be read and its relation yields a result and writes, exec of the call answers a next state in which
R0 is the result, R1 to R5 hold no value, R6 to R9 and R10 hold what they held, the last byte written to each address
of a granted region reads as written, every other byte reads as before, pc is pc + 1, and frames, status, program and
platform are unchanged. And for every helper whose relation is given by rules, arguments and state: the outcome is the
result of a rule whose condition holds for the arguments and the memory, and where there is no such rule the helper
gives no result. The order of the arguments, that a byte outside the granted regions has no effect, and the form of
the relation are the model's choice (log 8). (Rests on R262, R264, R266, R268, R73.) -/
def Obligations.HelperCallReturns : Prop :=
  (∀ (kind : HelperKind) (id : Imm) (s s1 : State) (h : Helper) (args : List Word) (r0 : Word)
        (writes : List (Word × Byte)),
      findHelper s.platform kind id = some h → s.readRegs (h.reads.map argReg) = .ok (args, s1) →
      s1.helperOutcome h args = .returns r0 writes →
      ∃ t : State, exec (match kind with | .byAddress => .callHelper id | .byBtfId => .callBtf id) s = .next t ∧
        t.reg 0 = .value r0 ∧
        (∀ r : Reg, 1 ≤ r.val → r.val ≤ 5 → t.reg r = .unspecified) ∧
        (∀ r : Reg, 6 ≤ r.val → t.reg r = s.reg r) ∧
        t.mem = s.mem.applyWrites s.platform writes ∧
        (∀ (before after : List (Word × Byte)) (a : Word) (b : Byte), writes = before ++ (a, b) :: after →
          (∀ w ∈ after, w.1 ≠ a) → granted s.platform a.toNat = true → t.mem.read a.toNat = some b) ∧
        (∀ x : Nat, (∀ w ∈ writes, w.1.toNat = x → granted s.platform x = false) →
          t.mem.read x = s.mem.read x) ∧
        t.pc = s.pc + 1 ∧ t.frames = s.frames ∧ t.status = s.status ∧ t.program = s.program ∧
        t.platform = s.platform) ∧
    (∀ (s : State) (h : Helper) (rules : List HelperRule) (args : List Word), h.behaviour = .relation rules →
      ((∃ r ∈ rules, holds (s.view args s.helperByte Config.helperAny) r.condition = true) →
        ∃ r ∈ rules, holds (s.view args s.helperByte Config.helperAny) r.condition = true ∧
          s.helperOutcome h args = resultOutcome (s.view args s.helperByte Config.helperAny) r.result) ∧
      ((∀ r ∈ rules, holds (s.view args s.helperByte Config.helperAny) r.condition = false) →
        s.helperOutcome h args = .doesNotReturn))

/-- For every state and both kinds of helper call: with no entry for the kind and the identifier, exec takes
UnknownHelper; with an entry whose relation yields fault for the arguments, HelperFault. Nothing else changes. What
HelperFault records beside the kind and the identifier (R361: the platform's) and the order of the arguments are the
model's choice (log 21, log 8). (Rests on R262, R264, R266, R360, R368.) -/
def Obligations.HelperCallFails : Prop :=
  ∀ (kind : HelperKind) (id : Imm) (s : State),
    (findHelper s.platform kind id = none →
      exec (match kind with | .byAddress => .callHelper id | .byBtfId => .callBtf id) s =
        .next { s with status := .faulted (.unknownHelper kind id) s.pc }) ∧
    (∀ (h : Helper) (args : List Word) (s1 : State) (info : Word),
      findHelper s.platform kind id = some h → s.readRegs (h.reads.map argReg) = .ok (args, s1) →
      s1.helperOutcome h args = .faults info →
      exec (match kind with | .byAddress => .callHelper id | .byBtfId => .callBtf id) s =
        .next { s with status := .faulted (.helperFault kind id info) s.pc })

/-- For every state at a depth below MAX_CALL_DEPTH and every displacement: exec of CALL_LOCAL answers a next state
with the record (pc + 1, R6 to R9 as they are, R10) pushed, R10 = FRAME_TOP(depth + 1), R0 and R6 to R9 without a
value, R1 to R5 kept, no byte of the new frame with a value, every other byte kept, pc = pc + 1 + displacement;
status, program, platform and draws are unchanged. (Rests on R263, R267, R52.) -/
def Obligations.LocalCallEnters : Prop :=
  ∀ (s : State) (disp : BitVec 32), s.frames.length < s.platform.maxCallDepth →
    ∃ t : State, exec (.callLocal disp) s = .next t ∧
      t.frames = { retPc := s.pc + 1, r6 := s.reg 6, r7 := s.reg 7, r8 := s.reg 8, r9 := s.reg 9,
                   r10 := s.r10 } :: s.frames ∧
      t.r10 = frameTop s.platform (s.frames.length + 1) ∧
      t.reg 0 = .unspecified ∧
      (∀ r : Reg, 6 ≤ r.val → r.val ≤ 9 → t.reg r = .unspecified) ∧
      (∀ r : Reg, 1 ≤ r.val → r.val ≤ 5 → t.reg r = s.reg r) ∧
      (∀ x, t.r10.toNat - s.platform.stackSize ≤ x → x < t.r10.toNat → t.mem.read x = none) ∧
      (∀ x, x < t.r10.toNat - s.platform.stackSize ∨ t.r10.toNat ≤ x → t.mem.read x = s.mem.read x) ∧
      t.pc = s.pc + 1 + disp.toInt ∧ t.status = s.status ∧ t.program = s.program ∧
      t.platform = s.platform ∧ t.draws = s.draws

/-- For every state whose frames already hold MAX_CALL_DEPTH records, exec of CALL_LOCAL takes CallDepthExceeded and
changes nothing else. (States R366.) -/
def Obligations.LocalCallAtTheBoundFaults : Prop :=
  ∀ (s : State) (disp : BitVec 32), s.frames.length = s.platform.maxCallDepth →
    exec (.callLocal disp) s = .next { s with status := .faulted .callDepthExceeded s.pc }

/-- For every state: with frames empty and R0 readable, exec of EXIT answers the state with status exited with the
full value of R0 and nothing else changed (but draws); with a record on frames it answers a state with R6 to R9, R10
and pc from the record, the record popped, R0 kept, R1 to R5 without a value, and memory, status, program, platform
and draws unchanged. That pc and everything but the status stay as they are at depth 0 is the model's reading (log
20). (Rests on R265, R270.) -/
def Obligations.ExitReturnsOrEnds : Prop :=
  (∀ (s s1 : State) (v : Word), s.frames = [] → s.readReg 0 = .ok (v, s1) →
      exec .exit s = .next { s1 with status := .exited v }) ∧
    (∀ (s : State) (f : Frame) (rest : List Frame), s.frames = f :: rest →
      ∃ t : State, exec .exit s = .next t ∧
        t.reg 6 = f.r6 ∧ t.reg 7 = f.r7 ∧ t.reg 8 = f.r8 ∧ t.reg 9 = f.r9 ∧ t.r10 = f.r10 ∧
        t.pc = f.retPc ∧ t.frames = rest ∧ t.reg 0 = s.reg 0 ∧
        (∀ r : Reg, 1 ≤ r.val → r.val ≤ 5 → t.reg r = .unspecified) ∧
        t.mem = s.mem ∧ t.status = s.status ∧ t.program = s.program ∧ t.platform = s.platform ∧
        t.draws = s.draws)

/-- For every state s from which CALL_LOCAL enters t without a fault, and every state u with the call stack of t
(whatever the callee did to registers and memory): EXIT at u answers a state whose R6 to R9 and R10 hold what they
held in s, whose pc is the slot after the call, whose frames are those of s, and whose R0 is the one of u. (Rests on
R21, R267, R268.) -/
def Obligations.LocalCallPreservesSavedRegisters : Prop :=
  ∀ (s t u : State) (disp : BitVec 32), s.frames.length < s.platform.maxCallDepth →
    exec (.callLocal disp) s = .next t → u.frames = t.frames →
    ∃ w : State, exec .exit u = .next w ∧ (∀ r : Reg, 6 ≤ r.val → w.reg r = s.reg r) ∧
      w.pc = s.pc + 1 ∧ w.frames = s.frames ∧ w.reg 0 = u.reg 0

/-- For every platform, access kind, address and width: an access past 2^64 is MemoryFault; else a misaligned one
where misalignment faults is Misaligned; else it passes exactly if one region holds all its bytes with the permission,
and is MemoryFault otherwise. That a misaligned access where misalignment is allowed is checked as a whole against one
region, although R59 performs it as n accesses of one byte, is the model's reading (log 12). (Rests on R51, R54, R55,
R59, R72.) -/
def Obligations.AccessChecksInOrder : Prop :=
  ∀ (p : Platform) (k : Access) (al : Bool) (addr : Word) (wd : Width),
    (2 ^ 64 < addr.toNat + widthBytes wd → checkAccess p k al addr wd = .error (.memoryFault addr wd k)) ∧
    (addr.toNat + widthBytes wd ≤ 2 ^ 64 → al = true → addr.toNat % widthBytes wd ≠ 0 →
      checkAccess p k al addr wd = .error (.misaligned addr wd)) ∧
    (addr.toNat + widthBytes wd ≤ 2 ^ 64 → al = false ∨ addr.toNat % widthBytes wd = 0 →
      (checkAccess p k al addr wd = .ok () ↔
        ∃ r ∈ p.regions, r.base.toNat ≤ addr.toNat ∧
          addr.toNat + widthBytes wd ≤ r.base.toNat + r.len.toNat ∧
          (k = .read → r.readable = true) ∧ (k = .write → r.writable = true)) ∧
      (checkAccess p k al addr wd = .ok () ∨
        checkAccess p k al addr wd = .error (.memoryFault addr wd k)))

/-- For every state, width and address with addr + n > 2^64: a load, a store of any value, and an atomic operation
with any update are the fault MemoryFault with the address, the width and the kind of access. That an atomic
operation, which is always misaligned there, takes this fault of a read and not Misaligned (R306 names Misaligned
first, R54 and R371 the top of the address space) is the model's reading (log 10). (Rests on R54, R55, R72, R371.) -/
def Obligations.AccessPastTheTopFaults : Prop :=
  ∀ (s : State) (addr : Word) (wd : Width), 2 ^ 64 < addr.toNat + widthBytes wd →
    s.memRead addr wd = .error (.memoryFault addr wd .read) ∧
    (∀ v, s.memWrite addr wd v = .error (.memoryFault addr wd .write)) ∧
    (∀ update, s.atomically addr wd update = .error (.memoryFault addr wd .read))

/-- For every state, width and address that does not pass the top and is not a multiple of the width: under MISALIGNED
= fault a load and a store are Misaligned with the address and the width; an atomic operation is Misaligned whatever
the parameter says. Under MISALIGNED = allow no load and no store is Misaligned. (States R365.) -/
def Obligations.MisalignedAccessesFault : Prop :=
  ∀ (s : State) (addr : Word) (wd : Width), addr.toNat + widthBytes wd ≤ 2 ^ 64 →
    addr.toNat % widthBytes wd ≠ 0 →
    (s.platform.misaligned = .fault →
      s.memRead addr wd = .error (.misaligned addr wd) ∧
      ∀ v, s.memWrite addr wd v = .error (.misaligned addr wd)) ∧
    (∀ update, s.atomically addr wd update = .error (.misaligned addr wd)) ∧
    (s.platform.misaligned = .allow →
      s.memRead addr wd ≠ .error (.misaligned addr wd) ∧
      ∀ v, s.memWrite addr wd v ≠ .error (.misaligned addr wd))

/-- For every state, address and number of bytes. A load from a region that is not shared, or where the rules of
MEMORY_MODEL allow no other answer (no other agent wrote), sees the bytes memory holds; where one has no value, a free
one if the platform draws, and no bytes at all if not. In a shared region with an unconstrained MEMORY_MODEL each byte
is what another agent wrote, if one did (a free choice), else as before. In a shared region with a MEMORY_MODEL given
by rules, a load sees an answer of a rule whose condition holds, if there is one. All this is one access (seenBytes).
A plain load (loadBytes) is one access if it is aligned, with its record noteLoad; a misaligned one is accesses of one
byte each (LoadedValueIsItsBytes says how): it sees some bytes where the platform draws, those memory holds where none
is shared or no other agent writes, and none if one of these has no value and the platform does not draw. It changes
nothing but the model's draws. R36 and R52 leave a model the choice between a fault and a free value; that the
platform makes it and the numbering of the free values (log 5), the free choice and the form of MEMORY_MODEL (log 9),
and that a byte outside the stack may have no value (log 13) are the model's choice. (Rests on R36, R51, R52, R59,
R61, R66.) -/
def Obligations.ByteALoadSees : Prop :=
  ∀ (s : State) (a n : Nat),
    (∀ bs, s.seenBytes a n = some bs → bs.length = n) ∧
    ((isShared s.platform a = false ∨
        ∃ rules, s.platform.memoryModel = .relation rules ∧
          ∀ r ∈ rules, holds (s.view (loadArgs a n) s.ownByte Config.answerAny) r.condition = false) →
      (∀ bs, bs.length = n → (∀ k (h : k < bs.length), s.mem.read (a + k) = some bs[k]) →
        s.seenBytes a n = some bs) ∧
      (s.platform.noValue = .draw →
        s.seenBytes a n = some ((List.range n).map fun k => (s.mem.read (a + k)).getD (Config.freeByte s.draws.count (a + k)))) ∧
      (s.platform.noValue = .fault → (∃ k, k < n ∧ s.mem.read (a + k) = none) → s.seenBytes a n = none)) ∧
    (isShared s.platform a = true → s.platform.memoryModel = .unconstrained →
      (s.platform.noValue = .draw →
        s.seenBytes a n = some ((List.range n).map fun k =>
          (Config.otherAgent s.draws.count (a + k)).getD ((s.mem.read (a + k)).getD (Config.freeByte s.draws.count (a + k))))) ∧
      (s.platform.noValue = .fault →
        (∀ bs, bs.length = n →
          (∀ k (h : k < bs.length), (Config.otherAgent s.draws.count (a + k)).or (s.mem.read (a + k)) = some bs[k]) →
          s.seenBytes a n = some bs) ∧
        ((∃ k, k < n ∧ Config.otherAgent s.draws.count (a + k) = none ∧ s.mem.read (a + k) = none) →
          s.seenBytes a n = none))) ∧
    (∀ rules, isShared s.platform a = true → s.platform.memoryModel = .relation rules →
      (∃ r ∈ rules, holds (s.view (loadArgs a n) s.ownByte Config.answerAny) r.condition = true) →
      ∃ r ∈ rules, holds (s.view (loadArgs a n) s.ownByte Config.answerAny) r.condition = true ∧
        s.seenBytes a n = some (disassemble s.platform.variant.endian n
          (evalTerm (s.view (loadArgs a n) s.ownByte Config.answerAny) [] r.answer))) ∧
    (∀ bs t, s.loadBytes a n = some (bs, t) → bs.length = n ∧ t = { s with draws := t.draws }) ∧
    (a % n = 0 → s.loadBytes a n = (s.seenBytes a n).map fun bs => (bs, s.noteLoad a bs)) ∧
    (a % n ≠ 0 →
      (s.platform.noValue = .draw → ∃ bs t, s.loadBytes a n = some (bs, t)) ∧
      (s.platform.memoryModel = .noOtherWriter ∨ (∀ k, k < n → isShared s.platform (a + k) = false) →
        (∀ bs, bs.length = n → (∀ k (h : k < bs.length), s.mem.read (a + k) = some bs[k]) →
          ∃ t, s.loadBytes a n = some (bs, t)) ∧
        (s.platform.noValue = .fault → (∃ k, k < n ∧ s.mem.read (a + k) = none) → s.loadBytes a n = none)))

/-- For every state, address and width: if MemRead answers a value, the value is below 2^(8n), and the load sees n
bytes (loadBytes, ByteALoadSees) of which byte k is byte k of the value (from the least significant) in little-endian
order and byte n - 1 - k in big-endian order. The state differs only in the model's record of draws (log 5, log 9). An
aligned load is one access: one draw more, and if the bytes are shared each of them as the latest answer at its
address (noteLoad). A misaligned load is n accesses of one byte, each exactly once, in some order: each sees its byte
as a load of one byte does in the state the one before it left. That the order is a free choice is log 12. (Rests on
R54, R56, R59, R60, R61.) -/
def Obligations.LoadedValueIsItsBytes : Prop :=
  ∀ (s t : State) (addr : Word) (wd : Width) (v : Word), s.memRead addr wd = .ok (v, t) →
    v.toNat < 2 ^ (8 * widthBytes wd) ∧ t = { s with draws := t.draws } ∧
    ∃ bs : List Byte, s.loadBytes addr.toNat (widthBytes wd) = some (bs, t) ∧ bs.length = widthBytes wd ∧
      (s.platform.variant.endian = .little → ∀ k, k < widthBytes wd →
        bs[k]? = some (v.extractLsb' (8 * k) 8)) ∧
      (s.platform.variant.endian = .big → ∀ k, k < widthBytes wd →
        bs[widthBytes wd - 1 - k]? = some (v.extractLsb' (8 * k) 8)) ∧
      (addr.toNat % widthBytes wd = 0 →
        s.seenBytes addr.toNat (widthBytes wd) = some bs ∧ t = s.noteLoad addr.toNat bs ∧
        t.draws.count = s.draws.count + 1 ∧
        (isShared s.platform addr.toNat = false → t.draws.answers = s.draws.answers) ∧
        (isShared s.platform addr.toNat = true → ∀ k, k < widthBytes wd →
          t.draws.answers.lookup (addr.toNat + k) = bs[k]?)) ∧
      (addr.toNat % widthBytes wd ≠ 0 →
        ∃ (order : List Nat) (u : Nat → State), order.Perm (List.range (widthBytes wd)) ∧ u 0 = s ∧
          u (widthBytes wd) = t ∧
          ∀ i k, order[i]? = some k → ∃ b, bs[k]? = some b ∧ (u i).seenBytes (addr.toNat + k) 1 = some [b] ∧
            u (i + 1) = (u i).noteLoad (addr.toNat + k) [b])

/-- For every state, address, width and value: if MemWrite answers a state, byte k of the value (from the least
significant) is at addr + k in little-endian order and at addr + n - 1 - k in big-endian order; every byte outside the
n bytes reads as before; nothing but memory differs. That state is storeValue of the value, which the statements on
stores and atomic operations name. (Rests on R55, R56, R60.) -/
def Obligations.StoredBytesAndNoOthers : Prop :=
  ∀ (s t : State) (addr : Word) (wd : Width) (v : Word), s.memWrite addr wd v = .ok t →
    (s.platform.variant.endian = .little → ∀ k, k < widthBytes wd →
      t.mem.read (addr.toNat + k) = some (v.extractLsb' (8 * k) 8)) ∧
    (s.platform.variant.endian = .big → ∀ k, k < widthBytes wd →
      t.mem.read (addr.toNat + (widthBytes wd - 1 - k)) = some (v.extractLsb' (8 * k) 8)) ∧
    (∀ x, x < addr.toNat ∨ addr.toNat + widthBytes wd ≤ x → t.mem.read x = s.mem.read x) ∧
    t = { s with mem := t.mem } ∧ t = s.storeValue addr wd v

/-- For every state, address, width and value: if MemWrite answers a state, the same bytes may be read, and they are
not shared (of an aligned load the first byte, of a misaligned one each), or there is no other writer, then MemRead
there answers the value modulo 2^(8n), zero-extended. (Rests on R54, R55, R59, R63, R66.) -/
def Obligations.LoadAfterStore : Prop :=
  ∀ (s t : State) (addr : Word) (wd : Width) (v : Word), s.memWrite addr wd v = .ok t →
    checkAccess s.platform .read (s.platform.misaligned == .fault) addr wd = .ok () →
    (s.platform.memoryModel = .noOtherWriter ∨ isShared s.platform addr.toNat = false ∧
      (addr.toNat % widthBytes wd ≠ 0 → ∀ k, k < widthBytes wd → isShared s.platform (addr.toNat + k) = false)) →
    ∃ u, t.memRead addr wd = .ok (BitVec.ofNat 64 (v.toNat % 2 ^ (8 * widthBytes wd)), u)

/-- For every state whose base register can be read, and whose bytes at base + offset (modulo 2^64) pass the checks
and have values (or free values): exec of the load answers the state with the destination holding the bytes as one
value in the byte order, the load noted in draws (ByteALoadSees says what loadBytes sees and that it changes nothing
else), pc advanced by 1 and nothing else changed. No byte of memory changes. (Rests on R281, R282, R285, R286, R287,
R288.) -/
def Obligations.LoadsCompleteWithZeroExtension : Prop :=
  ∀ (s s1 s2 : State) (dst : Dst) (src : Reg) (off : Off) (base : Word) (bs : List Byte),
    s.readReg src = .ok (base, s1) →
    (checkAccess s.platform .read (s.platform.misaligned == .fault) (base + off.signExtend 64) .w = .ok () →
      s1.loadBytes (base + off.signExtend 64).toNat 4 = some (bs, s2) →
      exec (.ldxW dst src off) s =
        .next ((s2.writeReg dst (assemble s.platform.variant.endian bs)).advance 1)) ∧
    (checkAccess s.platform .read (s.platform.misaligned == .fault) (base + off.signExtend 64) .h = .ok () →
      s1.loadBytes (base + off.signExtend 64).toNat 2 = some (bs, s2) →
      exec (.ldxH dst src off) s =
        .next ((s2.writeReg dst (assemble s.platform.variant.endian bs)).advance 1)) ∧
    (checkAccess s.platform .read (s.platform.misaligned == .fault) (base + off.signExtend 64) .b = .ok () →
      s1.loadBytes (base + off.signExtend 64).toNat 1 = some (bs, s2) →
      exec (.ldxB dst src off) s =
        .next ((s2.writeReg dst (assemble s.platform.variant.endian bs)).advance 1)) ∧
    (checkAccess s.platform .read (s.platform.misaligned == .fault) (base + off.signExtend 64) .dw = .ok () →
      s1.loadBytes (base + off.signExtend 64).toNat 8 = some (bs, s2) →
      exec (.ldxDw dst src off) s =
        .next ((s2.writeReg dst (assemble s.platform.variant.endian bs)).advance 1))

/-- For every state whose registers can be read and whose bytes at base + offset (modulo 2^64) pass the checks for a
write: exec of ST stores the low bytes of the sign-extended imm and exec of STX those of the source register (read
after the base, also where it is the same register, log 25), as the byte order says, advances pc by 1 and changes
nothing else. No register changes. (Rests on R281, R283, R289, R290, R291, R292, R293, R294, R295, R296.) -/
def Obligations.StoresComplete : Prop :=
  ∀ (s s1 : State) (dst : Reg) (off : Off) (base : Word), s.readReg dst = .ok (base, s1) →
    (checkAccess s.platform .write (s.platform.misaligned == .fault) (base + off.signExtend 64) .w = .ok () →
      (∀ imm : Imm, exec (.stW dst off imm) s =
        .next ((s1.storeValue (base + off.signExtend 64) .w (imm.signExtend 64)).advance 1)) ∧
      (∀ (src : Reg) (v : Word) (s2 : State), s1.readReg src = .ok (v, s2) → exec (.stxW dst src off) s =
        .next ((s2.storeValue (base + off.signExtend 64) .w v).advance 1))) ∧
    (checkAccess s.platform .write (s.platform.misaligned == .fault) (base + off.signExtend 64) .h = .ok () →
      (∀ imm : Imm, exec (.stH dst off imm) s =
        .next ((s1.storeValue (base + off.signExtend 64) .h (imm.signExtend 64)).advance 1)) ∧
      (∀ (src : Reg) (v : Word) (s2 : State), s1.readReg src = .ok (v, s2) → exec (.stxH dst src off) s =
        .next ((s2.storeValue (base + off.signExtend 64) .h v).advance 1))) ∧
    (checkAccess s.platform .write (s.platform.misaligned == .fault) (base + off.signExtend 64) .b = .ok () →
      (∀ imm : Imm, exec (.stB dst off imm) s =
        .next ((s1.storeValue (base + off.signExtend 64) .b (imm.signExtend 64)).advance 1)) ∧
      (∀ (src : Reg) (v : Word) (s2 : State), s1.readReg src = .ok (v, s2) → exec (.stxB dst src off) s =
        .next ((s2.storeValue (base + off.signExtend 64) .b v).advance 1))) ∧
    (checkAccess s.platform .write (s.platform.misaligned == .fault) (base + off.signExtend 64) .dw = .ok () →
      (∀ imm : Imm, exec (.stDw dst off imm) s =
        .next ((s1.storeValue (base + off.signExtend 64) .dw (imm.signExtend 64)).advance 1)) ∧
      (∀ (src : Reg) (v : Word) (s2 : State), s1.readReg src = .ok (v, s2) → exec (.stxDw dst src off) s =
        .next ((s2.storeValue (base + off.signExtend 64) .dw v).advance 1)))

/-- For every ST, STX and atomic operation and every state: with base the value read from its base register, the
address stored to is base + offset modulo 2^64 (the function effAddr the meanings use); if exec answers a next state,
every byte outside the bytes of its width from that address reads as before. (Rests on R50, R55, R58, R60, R306.) -/
def Obligations.StoresTouchOnlyTheirBytes : Prop :=
  ∀ (i : Instr) (s t s1 : State) (dst : Reg) (off : Off) (wd : Width) (base : Word),
    storeTarget i = some (dst, off, wd) → s.readReg dst = .ok (base, s1) → exec i s = .next t →
    ∀ x, x < (effAddr base off).toNat ∨ (effAddr base off).toNat + widthBytes wd ≤ x →
      t.mem.read x = s.mem.read x

/-- For every state whose base and operand registers can be read (and R0 for the compare-and-exchange): if the access
of a load, an immediate store, a register store or any of the ten atomic operations does not pass its checks, exec
takes the fault of the first check that fails, at pc, and nothing else changes; if the access of a load or an atomic
operation passes them but one of its bytes has no value (ByteALoadSees says when: on a platform that does not draw),
exec takes MemoryFault of a read, and nothing else changes. An atomic operation is checked for reading and then for
writing, and its alignment always; that order is the model's reading (log 10), and that a byte outside the stack may
have no value is its choice (log 13). (Rests on R52, R284, R306, R364, R371.) -/
def Obligations.DataAccessFaultsAreTaken : Prop :=
  ∀ (s s1 : State) (base : Word) (off : Off) (c : Cause),
    (∀ (dst : Dst) (src : Reg), s.readReg src = .ok (base, s1) →
      (s1.loadFaults (effAddr base off) .w c →
        exec (.ldxW dst src off) s = .next (s.raise c)) ∧
      (s1.loadFaults (effAddr base off) .h c →
        exec (.ldxH dst src off) s = .next (s.raise c)) ∧
      (s1.loadFaults (effAddr base off) .b c →
        exec (.ldxB dst src off) s = .next (s.raise c)) ∧
      (s1.loadFaults (effAddr base off) .dw c →
        exec (.ldxDw dst src off) s = .next (s.raise c))) ∧
    (∀ dst : Reg, s.readReg dst = .ok (base, s1) →
      (checkAccess s.platform .write (s.platform.misaligned == .fault) (effAddr base off) .w = .error c →
        (∀ imm, exec (.stW dst off imm) s = .next (s.raise c)) ∧
        (∀ (src : Reg) (v : Word) (s2 : State), s1.readReg src = .ok (v, s2) →
          exec (.stxW dst src off) s = .next (s.raise c))) ∧
      (checkAccess s.platform .write (s.platform.misaligned == .fault) (effAddr base off) .h = .error c →
        (∀ imm, exec (.stH dst off imm) s = .next (s.raise c)) ∧
        (∀ (src : Reg) (v : Word) (s2 : State), s1.readReg src = .ok (v, s2) →
          exec (.stxH dst src off) s = .next (s.raise c))) ∧
      (checkAccess s.platform .write (s.platform.misaligned == .fault) (effAddr base off) .b = .error c →
        (∀ imm, exec (.stB dst off imm) s = .next (s.raise c)) ∧
        (∀ (src : Reg) (v : Word) (s2 : State), s1.readReg src = .ok (v, s2) →
          exec (.stxB dst src off) s = .next (s.raise c))) ∧
      (checkAccess s.platform .write (s.platform.misaligned == .fault) (effAddr base off) .dw = .error c →
        (∀ imm, exec (.stDw dst off imm) s = .next (s.raise c)) ∧
        (∀ (src : Reg) (v : Word) (s2 : State), s1.readReg src = .ok (v, s2) →
          exec (.stxDw dst src off) s = .next (s.raise c)))) ∧
    (∀ (dst src : Reg) (v : Word) (s2 : State), s.readReg dst = .ok (base, s1) → s1.readReg src = .ok (v, s2) →
      (s2.atomicFaults (effAddr base off) .w c →
        exec (.atomicAddW dst src off) s = .next (s.raise c) ∧
        exec (.atomicOrW dst src off) s = .next (s.raise c) ∧
        exec (.atomicAndW dst src off) s = .next (s.raise c) ∧
        exec (.atomicXorW dst src off) s = .next (s.raise c)) ∧
      (s2.atomicFaults (effAddr base off) .dw c →
        exec (.atomicAddDw dst src off) s = .next (s.raise c) ∧
        exec (.atomicOrDw dst src off) s = .next (s.raise c) ∧
        exec (.atomicAndDw dst src off) s = .next (s.raise c) ∧
        exec (.atomicXorDw dst src off) s = .next (s.raise c))) ∧
    (∀ (dst : Reg) (src : Dst) (v : Word) (s2 : State), s.readReg dst = .ok (base, s1) →
      s1.readReg src.castSucc = .ok (v, s2) →
      (s2.atomicFaults (effAddr base off) .w c →
        exec (.atomicFetchAddW dst src off) s = .next (s.raise c) ∧
        exec (.atomicFetchOrW dst src off) s = .next (s.raise c) ∧
        exec (.atomicFetchAndW dst src off) s = .next (s.raise c) ∧
        exec (.atomicFetchXorW dst src off) s = .next (s.raise c) ∧
        exec (.atomicXchgW dst src off) s = .next (s.raise c)) ∧
      (s2.atomicFaults (effAddr base off) .dw c →
        exec (.atomicFetchAddDw dst src off) s = .next (s.raise c) ∧
        exec (.atomicFetchOrDw dst src off) s = .next (s.raise c) ∧
        exec (.atomicFetchAndDw dst src off) s = .next (s.raise c) ∧
        exec (.atomicFetchXorDw dst src off) s = .next (s.raise c) ∧
        exec (.atomicXchgDw dst src off) s = .next (s.raise c))) ∧
    (∀ (dst src : Reg) (e v : Word) (s2 s3 : State), s.readReg dst = .ok (base, s1) → s1.readReg 0 = .ok (e, s2) →
      s2.readReg src = .ok (v, s3) →
      (s3.atomicFaults (effAddr base off) .w c → exec (.atomicCmpxchgW dst src off) s = .next (s.raise c)) ∧
      (s3.atomicFaults (effAddr base off) .dw c → exec (.atomicCmpxchgDw dst src off) s = .next (s.raise c)))

/-- For every state whose base and operand registers can be read (in that order; two reads also where both are one
register, log 25) and whose aligned bytes at base + offset may be read and written and have values: exec answers the
state with those bytes holding the old value op the register (at W on the low halves), the load noted in draws, pc
advanced by 1, and nothing else changed. (Rests on R302, R307, R308, R309, R310, R317, R318, R319, R320.) -/
def Obligations.AtomicUpdatesComplete : Prop :=
  ∀ (s s1 s2 : State) (dst src : Reg) (off : Off) (base v : Word) (bs : List Byte),
    s.readReg dst = .ok (base, s1) → s1.readReg src = .ok (v, s2) →
    (checkAccess s.platform .read true (base + off.signExtend 64) .w = .ok () →
      checkAccess s.platform .write true (base + off.signExtend 64) .w = .ok () →
      s2.seenBytes (base + off.signExtend 64).toNat 4 = some bs →
      exec (.atomicAddW dst src off) s = .next (((s2.noteLoad (base + off.signExtend 64).toNat bs).storeValue (base + off.signExtend 64) .w
        (((assemble s.platform.variant.endian bs).setWidth 32 + v.setWidth 32).setWidth 64)).advance 1) ∧
      exec (.atomicOrW dst src off) s = .next (((s2.noteLoad (base + off.signExtend 64).toNat bs).storeValue (base + off.signExtend 64) .w
        (((assemble s.platform.variant.endian bs).setWidth 32 ||| v.setWidth 32).setWidth 64)).advance 1) ∧
      exec (.atomicAndW dst src off) s = .next (((s2.noteLoad (base + off.signExtend 64).toNat bs).storeValue (base + off.signExtend 64) .w
        (((assemble s.platform.variant.endian bs).setWidth 32 &&& v.setWidth 32).setWidth 64)).advance 1) ∧
      exec (.atomicXorW dst src off) s = .next (((s2.noteLoad (base + off.signExtend 64).toNat bs).storeValue (base + off.signExtend 64) .w
        (((assemble s.platform.variant.endian bs).setWidth 32 ^^^ v.setWidth 32).setWidth 64)).advance 1)) ∧
    (checkAccess s.platform .read true (base + off.signExtend 64) .dw = .ok () →
      checkAccess s.platform .write true (base + off.signExtend 64) .dw = .ok () →
      s2.seenBytes (base + off.signExtend 64).toNat 8 = some bs →
      exec (.atomicAddDw dst src off) s = .next (((s2.noteLoad (base + off.signExtend 64).toNat bs).storeValue (base + off.signExtend 64) .dw
        (assemble s.platform.variant.endian bs + v)).advance 1) ∧
      exec (.atomicOrDw dst src off) s = .next (((s2.noteLoad (base + off.signExtend 64).toNat bs).storeValue (base + off.signExtend 64) .dw
        (assemble s.platform.variant.endian bs ||| v)).advance 1) ∧
      exec (.atomicAndDw dst src off) s = .next (((s2.noteLoad (base + off.signExtend 64).toNat bs).storeValue (base + off.signExtend 64) .dw
        (assemble s.platform.variant.endian bs &&& v)).advance 1) ∧
      exec (.atomicXorDw dst src off) s = .next (((s2.noteLoad (base + off.signExtend 64).toNat bs).storeValue (base + off.signExtend 64) .dw
        (assemble s.platform.variant.endian bs ^^^ v)).advance 1))

/-- For every state whose base and operand registers can be read (in that order; two reads also where both are one
register, log 25) and whose aligned bytes at base + offset may be read and written and have values: exec answers the
state with those bytes holding the old value op the register (for the exchange the register), the source register
holding the old value, zero-extended, the load noted in draws, pc advanced by 1, and nothing else changed. (Rests on
R303, R304, R311, R312, R313, R314, R315, R321, R322, R323, R324, R325.) -/
def Obligations.AtomicFetchesAndExchangesComplete : Prop :=
  ∀ (s s1 s2 : State) (dst : Reg) (src : Dst) (off : Off) (base v : Word) (bs : List Byte),
    s.readReg dst = .ok (base, s1) → s1.readReg src.castSucc = .ok (v, s2) →
    (checkAccess s.platform .read true (base + off.signExtend 64) .w = .ok () →
      checkAccess s.platform .write true (base + off.signExtend 64) .w = .ok () →
      s2.seenBytes (base + off.signExtend 64).toNat 4 = some bs →
      exec (.atomicFetchAddW dst src off) s =
        .next ((((s2.noteLoad (base + off.signExtend 64).toNat bs).storeValue (base + off.signExtend 64) .w
          (((assemble s.platform.variant.endian bs).setWidth 32 + v.setWidth 32).setWidth 64)).writeReg src (assemble s.platform.variant.endian bs)).advance 1) ∧
      exec (.atomicFetchOrW dst src off) s =
        .next ((((s2.noteLoad (base + off.signExtend 64).toNat bs).storeValue (base + off.signExtend 64) .w
          (((assemble s.platform.variant.endian bs).setWidth 32 ||| v.setWidth 32).setWidth 64)).writeReg src (assemble s.platform.variant.endian bs)).advance 1) ∧
      exec (.atomicFetchAndW dst src off) s =
        .next ((((s2.noteLoad (base + off.signExtend 64).toNat bs).storeValue (base + off.signExtend 64) .w
          (((assemble s.platform.variant.endian bs).setWidth 32 &&& v.setWidth 32).setWidth 64)).writeReg src (assemble s.platform.variant.endian bs)).advance 1) ∧
      exec (.atomicFetchXorW dst src off) s =
        .next ((((s2.noteLoad (base + off.signExtend 64).toNat bs).storeValue (base + off.signExtend 64) .w
          (((assemble s.platform.variant.endian bs).setWidth 32 ^^^ v.setWidth 32).setWidth 64)).writeReg src (assemble s.platform.variant.endian bs)).advance 1) ∧
      exec (.atomicXchgW dst src off) s =
        .next ((((s2.noteLoad (base + off.signExtend 64).toNat bs).storeValue (base + off.signExtend 64) .w
          ((v.setWidth 32).setWidth 64)).writeReg src (assemble s.platform.variant.endian bs)).advance 1)) ∧
    (checkAccess s.platform .read true (base + off.signExtend 64) .dw = .ok () →
      checkAccess s.platform .write true (base + off.signExtend 64) .dw = .ok () →
      s2.seenBytes (base + off.signExtend 64).toNat 8 = some bs →
      exec (.atomicFetchAddDw dst src off) s =
        .next ((((s2.noteLoad (base + off.signExtend 64).toNat bs).storeValue (base + off.signExtend 64) .dw
          (assemble s.platform.variant.endian bs + v)).writeReg src (assemble s.platform.variant.endian bs)).advance 1) ∧
      exec (.atomicFetchOrDw dst src off) s =
        .next ((((s2.noteLoad (base + off.signExtend 64).toNat bs).storeValue (base + off.signExtend 64) .dw
          (assemble s.platform.variant.endian bs ||| v)).writeReg src (assemble s.platform.variant.endian bs)).advance 1) ∧
      exec (.atomicFetchAndDw dst src off) s =
        .next ((((s2.noteLoad (base + off.signExtend 64).toNat bs).storeValue (base + off.signExtend 64) .dw
          (assemble s.platform.variant.endian bs &&& v)).writeReg src (assemble s.platform.variant.endian bs)).advance 1) ∧
      exec (.atomicFetchXorDw dst src off) s =
        .next ((((s2.noteLoad (base + off.signExtend 64).toNat bs).storeValue (base + off.signExtend 64) .dw
          (assemble s.platform.variant.endian bs ^^^ v)).writeReg src (assemble s.platform.variant.endian bs)).advance 1) ∧
      exec (.atomicXchgDw dst src off) s =
        .next ((((s2.noteLoad (base + off.signExtend 64).toNat bs).storeValue (base + off.signExtend 64) .dw
          v).writeReg src (assemble s.platform.variant.endian bs)).advance 1))

/-- For every state whose base register, R0 and source register can be read (in that order, log 11; three reads
whichever they are, log 25) and whose aligned bytes at base + offset may be read and written and have values: if the
old value equals R0 (at W their low 32 bits), exec stores the source register's low bytes; if not, memory is
unchanged; in either case R0 holds the old value, zero-extended, the load is noted in draws, pc advances by 1, and
nothing else changes. (Rests on R305, R316, R326.) -/
def Obligations.CompareAndExchangeCompletes : Prop :=
  ∀ (s s1 s2 s3 : State) (dst src : Reg) (off : Off) (base expected v : Word) (bs : List Byte),
    s.readReg dst = .ok (base, s1) → s1.readReg 0 = .ok (expected, s2) → s2.readReg src = .ok (v, s3) →
    (checkAccess s.platform .read true (base + off.signExtend 64) .w = .ok () →
      checkAccess s.platform .write true (base + off.signExtend 64) .w = .ok () →
      s3.seenBytes (base + off.signExtend 64).toNat 4 = some bs →
      ((assemble s.platform.variant.endian bs).setWidth 32 = expected.setWidth 32 →
        exec (.atomicCmpxchgW dst src off) s =
          .next ((((s3.noteLoad (base + off.signExtend 64).toNat bs).storeValue (base + off.signExtend 64) .w v).writeReg 0
            (assemble s.platform.variant.endian bs)).advance 1)) ∧
      ((assemble s.platform.variant.endian bs).setWidth 32 ≠ expected.setWidth 32 →
        exec (.atomicCmpxchgW dst src off) s =
          .next (((s3.noteLoad (base + off.signExtend 64).toNat bs).writeReg 0 (assemble s.platform.variant.endian bs)).advance 1))) ∧
    (checkAccess s.platform .read true (base + off.signExtend 64) .dw = .ok () →
      checkAccess s.platform .write true (base + off.signExtend 64) .dw = .ok () →
      s3.seenBytes (base + off.signExtend 64).toNat 8 = some bs →
      (assemble s.platform.variant.endian bs = expected →
        exec (.atomicCmpxchgDw dst src off) s =
          .next ((((s3.noteLoad (base + off.signExtend 64).toNat bs).storeValue (base + off.signExtend 64) .dw v).writeReg 0
            (assemble s.platform.variant.endian bs)).advance 1)) ∧
      (assemble s.platform.variant.endian bs ≠ expected →
        exec (.atomicCmpxchgDw dst src off) s =
          .next (((s3.noteLoad (base + off.signExtend 64).toNat bs).writeReg 0 (assemble s.platform.variant.endian bs)).advance 1)))

/-- For every state: LD_IMM64 writes next_imm in the high half and imm in the low half, neither sign-extended; the six
others write the value the platform tables give (LD_CODE_ADDR for pc and imm; the two map value forms add next_imm,
zero-extended, to the address of the first value) where they give one; pc advances by 2 and nothing else changes.
(Rests on R332, R334, R335, R336, R337, R338, R339, R340, R344.) -/
def Obligations.WideConstantsAndLookupsComplete : Prop :=
  ∀ (s : State) (dst : Dst) (imm nextImm : Imm) (m v : Word),
    exec (.ldImm64 dst imm nextImm) s =
      .next ((s.writeReg dst ((nextImm.setWidth 64 <<< 32) ||| imm.setWidth 64)).advance 2) ∧
    (s.platform.mapByFd.lookup imm = some m →
      exec (.ldMapFd dst imm) s = .next ((s.writeReg dst m).advance 2)) ∧
    (s.platform.mapByFd.lookup imm = some m → s.platform.mapVal.lookup m = some v →
      exec (.ldMapValueFd dst imm nextImm) s = .next ((s.writeReg dst (v + nextImm.setWidth 64)).advance 2)) ∧
    (s.platform.varAddr.lookup imm = some v →
      exec (.ldVarAddr dst imm) s = .next ((s.writeReg dst v).advance 2)) ∧
    (s.platform.codeAddr.lookup (s.pc, imm) = some v →
      exec (.ldCodeAddr dst imm) s = .next ((s.writeReg dst v).advance 2)) ∧
    (s.platform.mapByIdx.lookup imm = some m →
      exec (.ldMapIdx dst imm) s = .next ((s.writeReg dst m).advance 2)) ∧
    (s.platform.mapByIdx.lookup imm = some m → s.platform.mapVal.lookup m = some v →
      exec (.ldMapValueIdx dst imm nextImm) s = .next ((s.writeReg dst (v + nextImm.setWidth 64)).advance 2))

/-- For every state: where MAP_BY_FD, MAP_BY_IDX, MAP_VAL (of the map found), VAR_ADDR or CODE_ADDR is undefined for
the argument, exec of the instruction that names it takes PlatformLookupFault with the subtype and imm, and changes
nothing else. (States R369.) -/
def Obligations.UndefinedLookupsFault : Prop :=
  ∀ (s : State) (dst : Dst) (imm nextImm : Imm),
    (s.platform.mapByFd.lookup imm = none →
      exec (.ldMapFd dst imm) s = .next (s.raise (.platformLookupFault 1 imm)) ∧
      exec (.ldMapValueFd dst imm nextImm) s = .next (s.raise (.platformLookupFault 2 imm))) ∧
    (∀ m, s.platform.mapByFd.lookup imm = some m → s.platform.mapVal.lookup m = none →
      exec (.ldMapValueFd dst imm nextImm) s = .next (s.raise (.platformLookupFault 2 imm))) ∧
    (s.platform.varAddr.lookup imm = none →
      exec (.ldVarAddr dst imm) s = .next (s.raise (.platformLookupFault 3 imm))) ∧
    (s.platform.codeAddr.lookup (s.pc, imm) = none →
      exec (.ldCodeAddr dst imm) s = .next (s.raise (.platformLookupFault 4 imm))) ∧
    (s.platform.mapByIdx.lookup imm = none →
      exec (.ldMapIdx dst imm) s = .next (s.raise (.platformLookupFault 5 imm)) ∧
      exec (.ldMapValueIdx dst imm nextImm) s = .next (s.raise (.platformLookupFault 6 imm))) ∧
    (∀ m, s.platform.mapByIdx.lookup imm = some m → s.platform.mapVal.lookup m = none →
      exec (.ldMapValueIdx dst imm nextImm) s = .next (s.raise (.platformLookupFault 6 imm)))

/-- For every instruction and state: if exec answers a next state, its program and its platform are those before. So
no store is ever seen by instruction fetch. (Rests on R34, R53, R70.) -/
def Obligations.NoInstructionChangesTheParameters : Prop :=
  ∀ (i : Instr) (s t : State), exec i s = .next t → t.program = s.program ∧ t.platform = s.platform

/-- For every instruction but CALL_LOCAL and EXIT and every state: if exec answers a next state, R10 and frames are
those before. (Rests on R22, R30.) -/
def Obligations.OnlyCallsAndExitsMoveTheFramePointer : Prop :=
  ∀ (i : Instr) (s t : State), exec i s = .next t → (∀ disp, i ≠ .callLocal disp) → i ≠ .exit →
    t.r10 = s.r10 ∧ t.frames = s.frames

/-- For every instruction and state: if exec answers a next state, each register of R0 to R9 outside the column
"writes" of R24 for the instruction holds what it held before (a value, or none). (Rests on R20, R24, R262, R263,
R265.) -/
def Obligations.RegistersNotWrittenAreKept : Prop :=
  ∀ (i : Instr) (s t : State) (r : Dst), exec i s = .next t → r ∉ registersWritten i →
    t.reg r.castSucc = s.reg r.castSucc

/-- For every instruction but ST, STX, the atomic operations and the calls, and every state: if exec answers a next
state, every byte of memory reads as before. And every instruction that takes a fault leaves memory, registers,
frames, pc and everything else but the status as it was. (Rests on R50, R73, R360, R374.) -/
def Obligations.MemoryChangesOnlyAtStoresAndCalls : Prop :=
  (∀ (i : Instr) (s t : State), exec i s = .next t → changesMemory i = false →
      ∀ x, t.mem.read x = s.mem.read x) ∧
    (∀ (i : Instr) (s t : State) (c : Cause) (k : Int), s.status = .running → exec i s = .next t →
      t.status = .faulted c k → t = { s with status := .faulted c s.pc })
end

