-- ==== Sys2Proof/Laws/State.lean ====
section
/-! SUPPORT. What each update of the state leaves in each field, so that no later proof unfolds an update. -/

namespace Sys2Proof.Machine

variable (s : State) (c : Cause) (d : Dst) (v : Word) (n : Int) (wd : Width) (addr : Word)

/-! ## Taking a fault -/

@[simp] theorem raise_regs : (s.raise c).regs = s.regs := rfl
@[simp] theorem raise_r10 : (s.raise c).r10 = s.r10 := rfl
@[simp] theorem raise_pc : (s.raise c).pc = s.pc := rfl
@[simp] theorem raise_frames : (s.raise c).frames = s.frames := rfl
@[simp] theorem raise_status : (s.raise c).status = .faulted c s.pc := rfl
@[simp] theorem raise_mem : (s.raise c).mem = s.mem := rfl
@[simp] theorem raise_program : (s.raise c).program = s.program := rfl
@[simp] theorem raise_platform : (s.raise c).platform = s.platform := rfl
@[simp] theorem raise_draws : (s.raise c).draws = s.draws := rfl

/-! ## Writing a register -/

@[simp] theorem writeReg_regs : (s.writeReg d v).regs = s.regs.set d.val (.value v) := rfl
@[simp] theorem writeReg_r10 : (s.writeReg d v).r10 = s.r10 := rfl
@[simp] theorem writeReg_pc : (s.writeReg d v).pc = s.pc := rfl
@[simp] theorem writeReg_frames : (s.writeReg d v).frames = s.frames := rfl
@[simp] theorem writeReg_status : (s.writeReg d v).status = s.status := rfl
@[simp] theorem writeReg_mem : (s.writeReg d v).mem = s.mem := rfl
@[simp] theorem writeReg_program : (s.writeReg d v).program = s.program := rfl
@[simp] theorem writeReg_platform : (s.writeReg d v).platform = s.platform := rfl
@[simp] theorem writeReg_draws : (s.writeReg d v).draws = s.draws := rfl

/-! ## A register losing its value -/

@[simp] theorem forgetReg_regs : (s.forgetReg d).regs = s.regs.set d.val .unspecified := rfl
@[simp] theorem forgetReg_r10 : (s.forgetReg d).r10 = s.r10 := rfl
@[simp] theorem forgetReg_pc : (s.forgetReg d).pc = s.pc := rfl
@[simp] theorem forgetReg_frames : (s.forgetReg d).frames = s.frames := rfl
@[simp] theorem forgetReg_status : (s.forgetReg d).status = s.status := rfl
@[simp] theorem forgetReg_mem : (s.forgetReg d).mem = s.mem := rfl
@[simp] theorem forgetReg_program : (s.forgetReg d).program = s.program := rfl
@[simp] theorem forgetReg_platform : (s.forgetReg d).platform = s.platform := rfl
@[simp] theorem forgetReg_draws : (s.forgetReg d).draws = s.draws := rfl

@[simp] theorem forgetArgs_regs : s.forgetArgs.regs =
    ((((s.regs.set 1 .unspecified).set 2 .unspecified).set 3 .unspecified).set 4 .unspecified).set 5 .unspecified := rfl
@[simp] theorem forgetArgs_r10 : s.forgetArgs.r10 = s.r10 := rfl
@[simp] theorem forgetArgs_pc : s.forgetArgs.pc = s.pc := rfl
@[simp] theorem forgetArgs_frames : s.forgetArgs.frames = s.frames := rfl
@[simp] theorem forgetArgs_status : s.forgetArgs.status = s.status := rfl
@[simp] theorem forgetArgs_mem : s.forgetArgs.mem = s.mem := rfl
@[simp] theorem forgetArgs_program : s.forgetArgs.program = s.program := rfl
@[simp] theorem forgetArgs_platform : s.forgetArgs.platform = s.platform := rfl
@[simp] theorem forgetArgs_draws : s.forgetArgs.draws = s.draws := rfl

/-! ## The program counter -/

@[simp] theorem advance_regs : (s.advance n).regs = s.regs := rfl
@[simp] theorem advance_r10 : (s.advance n).r10 = s.r10 := rfl
@[simp] theorem advance_pc : (s.advance n).pc = s.pc + n := rfl
@[simp] theorem advance_frames : (s.advance n).frames = s.frames := rfl
@[simp] theorem advance_status : (s.advance n).status = s.status := rfl
@[simp] theorem advance_mem : (s.advance n).mem = s.mem := rfl
@[simp] theorem advance_program : (s.advance n).program = s.program := rfl
@[simp] theorem advance_platform : (s.advance n).platform = s.platform := rfl
@[simp] theorem advance_draws : (s.advance n).draws = s.draws := rfl

@[simp] theorem jump_regs : (s.jump n).regs = s.regs := rfl
@[simp] theorem jump_r10 : (s.jump n).r10 = s.r10 := rfl
@[simp] theorem jump_pc : (s.jump n).pc = s.pc + 1 + n := rfl
@[simp] theorem jump_frames : (s.jump n).frames = s.frames := rfl
@[simp] theorem jump_status : (s.jump n).status = s.status := rfl
@[simp] theorem jump_mem : (s.jump n).mem = s.mem := rfl
@[simp] theorem jump_program : (s.jump n).program = s.program := rfl
@[simp] theorem jump_platform : (s.jump n).platform = s.platform := rfl
@[simp] theorem jump_draws : (s.jump n).draws = s.draws := rfl

/-- A conditional jump moves nothing but the program counter. -/
theorem branch_eq (taken : Bool) (off : Off) :
    s.branch taken off = { s with pc := if taken then s.pc + 1 + off.toInt else s.pc + 1 } := by
  cases taken <;> rfl

/-! ## Storing -/

@[simp] theorem storeValue_regs : (s.storeValue addr wd v).regs = s.regs := rfl
@[simp] theorem storeValue_r10 : (s.storeValue addr wd v).r10 = s.r10 := rfl
@[simp] theorem storeValue_pc : (s.storeValue addr wd v).pc = s.pc := rfl
@[simp] theorem storeValue_frames : (s.storeValue addr wd v).frames = s.frames := rfl
@[simp] theorem storeValue_status : (s.storeValue addr wd v).status = s.status := rfl
@[simp] theorem storeValue_mem : (s.storeValue addr wd v).mem =
    s.mem.writeAll addr.toNat (disassemble s.platform.variant.endian (widthBytes wd) v) := rfl
@[simp] theorem storeValue_program : (s.storeValue addr wd v).program = s.program := rfl
@[simp] theorem storeValue_platform : (s.storeValue addr wd v).platform = s.platform := rfl
@[simp] theorem storeValue_draws : (s.storeValue addr wd v).draws = s.draws := rfl

/-! ## Noting a load -/

@[simp] theorem next_count (d : Draws) : d.next.count = d.count + 1 := rfl
@[simp] theorem next_answers (d : Draws) : d.next.answers = d.answers := rfl

variable (a : Nat) (bs : List Byte)

@[simp] theorem noteLoad_regs : (s.noteLoad a bs).regs = s.regs := rfl
@[simp] theorem noteLoad_r10 : (s.noteLoad a bs).r10 = s.r10 := rfl
@[simp] theorem noteLoad_pc : (s.noteLoad a bs).pc = s.pc := rfl
@[simp] theorem noteLoad_frames : (s.noteLoad a bs).frames = s.frames := rfl
@[simp] theorem noteLoad_status : (s.noteLoad a bs).status = s.status := rfl
@[simp] theorem noteLoad_mem : (s.noteLoad a bs).mem = s.mem := rfl
@[simp] theorem noteLoad_program : (s.noteLoad a bs).program = s.program := rfl
@[simp] theorem noteLoad_platform : (s.noteLoad a bs).platform = s.platform := rfl
@[simp] theorem noteLoad_count : (s.noteLoad a bs).draws.count = s.draws.count + 1 := rfl
@[simp] theorem noteLoad_answers : (s.noteLoad a bs).draws.answers =
    if isShared s.platform a then cellsFrom a bs ++ s.draws.answers else s.draws.answers := rfl

/-- Noting a load changes nothing but the record of draws. -/
theorem noteLoad_eq : s.noteLoad a bs = { s with draws := (s.noteLoad a bs).draws } := rfl

/-- The same seen from an earlier state that only the record of draws parts from this one. -/
theorem noteLoad_of {t : State} (e : t = { s with draws := t.draws }) :
    t.noteLoad a bs = { s with draws := (t.noteLoad a bs).draws } := by
  rw [noteLoad_eq]
  generalize (t.noteLoad a bs).draws = k
  rw [e]

/-! ## Calls -/

variable (f : Frame) (rest : List Frame) (r0 : Word) (ws : List (Word × Byte))

@[simp] theorem leaveLocal_regs : (s.leaveLocal f rest).regs =
    (((s.forgetArgs.regs.set 6 f.r6).set 7 f.r7).set 8 f.r8).set 9 f.r9 := rfl
@[simp] theorem leaveLocal_r10 : (s.leaveLocal f rest).r10 = f.r10 := rfl
@[simp] theorem leaveLocal_pc : (s.leaveLocal f rest).pc = f.retPc := rfl
@[simp] theorem leaveLocal_frames : (s.leaveLocal f rest).frames = rest := rfl
@[simp] theorem leaveLocal_status : (s.leaveLocal f rest).status = s.status := rfl
@[simp] theorem leaveLocal_mem : (s.leaveLocal f rest).mem = s.mem := rfl
@[simp] theorem leaveLocal_program : (s.leaveLocal f rest).program = s.program := rfl
@[simp] theorem leaveLocal_platform : (s.leaveLocal f rest).platform = s.platform := rfl
@[simp] theorem leaveLocal_draws : (s.leaveLocal f rest).draws = s.draws := rfl

@[simp] theorem afterHelper_regs : (s.afterHelper r0 ws).regs = (s.writeReg 0 r0).forgetArgs.regs := rfl
@[simp] theorem afterHelper_r10 : (s.afterHelper r0 ws).r10 = s.r10 := rfl
@[simp] theorem afterHelper_pc : (s.afterHelper r0 ws).pc = s.pc + 1 := rfl
@[simp] theorem afterHelper_frames : (s.afterHelper r0 ws).frames = s.frames := rfl
@[simp] theorem afterHelper_status : (s.afterHelper r0 ws).status = s.status := rfl
@[simp] theorem afterHelper_mem : (s.afterHelper r0 ws).mem = s.mem.applyWrites s.platform ws := rfl
@[simp] theorem afterHelper_program : (s.afterHelper r0 ws).program = s.program := rfl
@[simp] theorem afterHelper_platform : (s.afterHelper r0 ws).platform = s.platform := rfl
@[simp] theorem afterHelper_draws : (s.afterHelper r0 ws).draws = s.draws.next := rfl

/-! ## Registers as the machine reads them -/

/-- R0 to R9 are the ten general registers. -/
@[simp] theorem reg_castSucc : s.reg d.castSucc = s.regs[d.val] := by
  simp [State.reg]

/-- R10 always holds a value. -/
@[simp] theorem reg_ten : s.reg 10 = .value s.r10 := rfl

/-- What a register holds depends on the register file and R10 alone. -/
theorem reg_congr (t : State) (r : Reg) (hr : t.regs = s.regs) (h10 : t.r10 = s.r10) : t.reg r = s.reg r := by
  simp [State.reg, hr, h10]

end Sys2Proof.Machine
end

