-- ==== Sys2Proof/Laws/Access.lean ====
section
/-! SUPPORT. What each shared operation can answer: reading registers and operands, the checks of an access, reading
and writing memory, atomic events, settling. Cite these instead of unfolding. -/

namespace Sys2Proof.Machine

/-! ## Settling -/

@[simp] theorem settle_ok (s t : State) : settle s (.ok t) = .next t := rfl
@[simp] theorem settle_error (s : State) (c : Cause) : settle s (.error c) = .next (s.raise c) := rfl

/-- An instruction that settles always has a next state: its effect, or its fault taken. -/
theorem settle_next {s t : State} {e : Except Cause State} (h : settle s e = .next t) :
    e = .ok t ∨ ∃ c, e = .error c ∧ t = s.raise c := by
  cases e with
  | ok u => exact .inl (by simpa using h)
  | error c => exact .inr ⟨c, rfl, by simpa using h.symm⟩

/-! ## Sequencing -/

/-- A computation in two parts succeeds only if both do. -/
theorem bind_ok {α β : Type} {x : Except Cause α} {f : α → Except Cause β} {b : β} (h : x >>= f = .ok b) :
    ∃ a, x = .ok a ∧ f a = .ok b := by
  cases x with
  | ok a => exact ⟨a, rfl, h⟩
  | error c => cases h

@[simp] theorem ok_bind {α β : Type} (a : α) (f : α → Except Cause β) : (Except.ok a >>= f) = f a := rfl
@[simp] theorem error_bind {α β : Type} (c : Cause) (f : α → Except Cause β) :
    ((Except.error c : Except Cause α) >>= f) = .error c := rfl

/-! ## Reading registers and operands -/

/-- A register read that succeeds: the value held, or a value drawn; nothing but `draws` can differ. -/
theorem readReg_ok {s t : State} {r : Reg} {v : Word} (h : s.readReg r = .ok (v, t)) :
    (s.reg r = .value v ∧ t = s) ∨
    (s.reg r = .unspecified ∧ s.platform.noValue = .draw ∧ v = Config.freeWord s.draws.count ∧
      t = { s with draws := s.draws.next }) := by
  unfold State.readReg at h
  split at h
  · next w hw => simp only [Except.ok.injEq, Prod.mk.injEq] at h; exact .inl ⟨by rw [hw, h.1], h.2.symm⟩
  · next hw =>
    split at h
    · cases h
    · next hd => simp only [Except.ok.injEq, Prod.mk.injEq] at h; exact .inr ⟨hw, hd, h.1.symm, h.2.symm⟩

/-- A register read that fails: the register holds no value and the platform does not draw. -/
theorem readReg_error {s : State} {r : Reg} {c : Cause} (h : s.readReg r = .error c) :
    s.reg r = .unspecified ∧ s.platform.noValue = .fault ∧ c = .uninitialisedRegister r := by
  unfold State.readReg at h
  split at h
  · cases h
  · next hw =>
    split at h
    · next hf => exact ⟨hw, hf, by simpa using h.symm⟩
    · cases h

/-- A register that holds a value reads as it. -/
theorem readReg_of_value {s : State} {r : Reg} {v : Word} (h : s.reg r = .value v) : s.readReg r = .ok (v, s) := by
  simp [State.readReg, h]

/-- A register that holds none faults where the platform does not draw. -/
theorem readReg_of_none {s : State} {r : Reg} (h : s.reg r = .unspecified) (hf : s.platform.noValue = .fault) :
    s.readReg r = .error (.uninitialisedRegister r) := by
  simp [State.readReg, h, hf]

/-- What a read of a register leaves alone: everything but `draws`. -/
theorem readReg_state {s t : State} {r : Reg} {v : Word} (h : s.readReg r = .ok (v, t)) :
    t = { s with draws := t.draws } := by
  obtain ⟨_, rfl⟩ | ⟨_, _, _, rfl⟩ := readReg_ok h <;> rfl

/-- What a read of a 64-bit operand leaves alone. -/
theorem operand64_state {s t : State} {o : Operand} {v : Word} (h : s.operand64 o = .ok (v, t)) :
    t = { s with draws := t.draws } := by
  cases o with
  | imm i => simp only [State.operand64, Except.ok.injEq, Prod.mk.injEq] at h; rw [← h.2]
  | reg r => exact readReg_state h

/-- What a read of a 32-bit operand leaves alone. -/
theorem operand32_state {s t : State} {o : Operand} {v : Half} (h : s.operand32 o = .ok (v, t)) :
    t = { s with draws := t.draws } := by
  cases o with
  | imm i => simp only [State.operand32, Except.ok.injEq, Prod.mk.injEq] at h; rw [← h.2]
  | reg r =>
    simp only [State.operand32] at h
    cases hr : s.readReg r with
    | error c => rw [hr] at h; cases h
    | ok p =>
      rw [hr] at h
      simp only [Except.map, Except.ok.injEq, Prod.mk.injEq] at h
      have := readReg_state (s := s) (r := r) (v := p.1) (t := p.2) hr
      rwa [h.2] at this

/-- What reading several registers leaves alone. -/
theorem readRegs_state : ∀ {rs : List Reg} {s t : State} {vs : List Word}, s.readRegs rs = .ok (vs, t) →
    t = { s with draws := t.draws }
  | [], s, t, vs, h => by
    simp only [State.readRegs, Except.ok.injEq, Prod.mk.injEq] at h; rw [← h.2]
  | r :: rs, s, t, vs, h => by
    simp only [State.readRegs] at h
    obtain ⟨⟨v, s1⟩, h1, h⟩ := bind_ok h
    obtain ⟨⟨ws, s2⟩, h2, h⟩ := bind_ok h
    obtain ⟨-, rfl⟩ := Prod.mk.inj (Except.ok.inj h)
    have e1 := readReg_state h1
    have e2 := readRegs_state h2
    rw [e2, e1]

/-! ## The checks of an access -/

/-- The checks pass: the access ends by 2^64, it is aligned where that is asked, and one region holds it. -/
theorem checkAccess_ok {p : Platform} {k : Access} {al : Bool} {addr : Word} {wd : Width}
    (h : checkAccess p k al addr wd = .ok ()) :
    addr.toNat + widthBytes wd ≤ 2 ^ 64 ∧ (al = true → addr.toNat % widthBytes wd = 0) ∧
      admits p k addr.toNat (widthBytes wd) = true := by
  unfold checkAccess at h
  split at h
  · cases h
  · next h1 =>
    split at h
    · cases h
    · next h2 =>
      split at h
      · next h3 =>
        refine ⟨by omega, fun ha => ?_, h3⟩
        subst ha; simpa using h2
      · cases h

/-- The width of an access is at least one byte. -/
theorem widthBytes_pos (wd : Width) : 0 < widthBytes wd := by cases wd <;> decide

/-- Every byte of an admitted access lies in a granted region. -/
theorem granted_of_admits {p : Platform} {k : Access} {a n x : Nat} (h : admits p k a n = true) (h1 : a ≤ x)
    (h2 : x < a + n) : granted p x = true := by
  simp only [admits, granted, List.any_eq_true, Bool.and_eq_true, regionCovers, decide_eq_true_eq] at h ⊢
  obtain ⟨r, hr, ⟨ha, hb⟩, -⟩ := h
  exact ⟨r, hr, by omega, by omega⟩

/-- Two regions are disjoint exactly if no byte is in both; so a region of no bytes is disjoint from every one. -/
theorem regionsDisjoint_iff {r q : Region} :
    regionsDisjoint r q = true ↔ ∀ x, ¬ (regionCovers r x 1 = true ∧ regionCovers q x 1 = true) := by
  have e1 : r.len = 0 ↔ r.len.toNat = 0 := by rw [BitVec.toNat_eq]; rfl
  have e2 : q.len = 0 ↔ q.len.toNat = 0 := by rw [BitVec.toNat_eq]; rfl
  simp only [regionsDisjoint, regionCovers, Bool.or_eq_true, Bool.and_eq_true, decide_eq_true_eq, e1, e2]
  constructor
  · intro h x; omega
  · intro h
    by_contra hn
    exact h (max r.base.toNat q.base.toNat) (by omega)

/-- Any two records of a list of pairwise related regions are one record, or related one way or the other. -/
theorem pairwiseRegions_mem {rel : Region → Region → Bool} : ∀ {rs : List Region}, pairwiseRegions rel rs = true →
    ∀ r ∈ rs, ∀ q ∈ rs, r = q ∨ rel r q = true ∨ rel q r = true
  | a :: rs, h, r, hr, q, hq => by
    simp only [pairwiseRegions, Bool.and_eq_true, List.all_eq_true] at h
    rcases List.mem_cons.mp hr with rfl | hr' <;> rcases List.mem_cons.mp hq with rfl | hq'
    · exact .inl rfl
    · exact .inr (.inl (h.1 _ hq'))
    · exact .inr (.inr (h.1 _ hr'))
    · exact pairwiseRegions_mem h.2 r hr' q hq'

/-! ## Memory accesses -/

/-- What reading an access's bytes leaves alone, and the value it gives. -/
theorem fetchValue_ok {s t : State} {addr : Word} {wd : Width} {v : Word} (h : s.fetchValue addr wd = .ok (v, t)) :
    ∃ bs, s.seenBytes addr.toNat (widthBytes wd) = some bs ∧ v = assemble s.platform.variant.endian bs ∧
      t = s.noteLoad addr.toNat bs := by
  unfold State.fetchValue at h
  split at h
  · next bs hb =>
    simp only [Except.ok.injEq, Prod.mk.injEq] at h
    exact ⟨bs, hb, h.1.symm, h.2.symm⟩
  · cases h

/-- A first separate load, and the rest after it. -/
theorem loadEach_cons {s t : State} {a k : Nat} {ks : List Nat} {cs : List Host.Cell}
    (h : s.loadEach a (k :: ks) = some (cs, t)) :
    ∃ b cs', s.seenBytes (a + k) 1 = some [b] ∧ (s.noteLoad (a + k) [b]).loadEach a ks = some (cs', t) ∧
      cs = (a + k, b) :: cs' := by
  simp only [State.loadEach] at h
  split at h
  · next b hb =>
    simp only [Option.map_eq_some_iff, Prod.exists, Prod.mk.injEq] at h
    obtain ⟨cs', t', h, hc, rfl⟩ := h
    exact ⟨b, cs', hb, h, hc.symm⟩
  · cases h

/-- Separate loads, one after the other: the states they pass through and the byte each sees. -/
theorem loadEach_steps {a : Nat} : ∀ {ks : List Nat} {s t : State} {cs : List Host.Cell},
    s.loadEach a ks = some (cs, t) →
    ∃ u : Nat → State, u 0 = s ∧ u ks.length = t ∧ ∀ i (h : i < ks.length), ∃ b,
      (u i).seenBytes (a + ks[i]) 1 = some [b] ∧ u (i + 1) = (u i).noteLoad (a + ks[i]) [b] ∧
      (ks.Nodup → cs.lookup (a + ks[i]) = some b)
  | [], s, t, cs, h => by
    simp only [State.loadEach, Option.some.injEq, Prod.mk.injEq] at h
    exact ⟨fun _ => s, rfl, h.2, fun i hi => absurd hi (by simp)⟩
  | k :: ks, s, t, cs, h => by
    obtain ⟨b, cs', hb, h', rfl⟩ := loadEach_cons h
    obtain ⟨u, h0, hl, hu⟩ := loadEach_steps h'
    refine ⟨fun i => if i = 0 then s else u (i - 1), rfl, by simpa using hl, fun i hi => ?_⟩
    cases i with
    | zero => exact ⟨b, hb, h0, fun _ => by simp⟩
    | succ i =>
      have hi : i < ks.length := by simpa using hi
      obtain ⟨c, h1, h2, h3⟩ := hu i hi
      refine ⟨c, h1, h2, fun hn => ?_⟩
      have hne : (a + ks[i] == a + k) = false := by
        have : ks[i] ≠ k := fun he => (List.nodup_cons.1 hn).1 (he ▸ List.getElem_mem _)
        simpa using this
      simp only [List.getElem_cons_succ, List.lookup_cons, hne]
      exact h3 (List.nodup_cons.1 hn).2

/-- Separate loads change nothing but the model's record. -/
theorem loadEach_draws {a : Nat} : ∀ {ks : List Nat} {s t : State} {cs : List Host.Cell},
    s.loadEach a ks = some (cs, t) → t = { s with draws := t.draws }
  | [], s, t, cs, h => by
    simp only [State.loadEach, Option.some.injEq, Prod.mk.injEq] at h
    rw [← h.2]
  | k :: ks, s, t, cs, h => by
    obtain ⟨b, cs', -, h', -⟩ := loadEach_cons h
    rw [loadEach_draws h']; rfl

/-- Separate loads are answered if each byte can be seen, whatever the model's record. -/
theorem loadEach_answers {a : Nat} : ∀ {ks : List Nat} {s : State},
    (∀ k ∈ ks, ∀ d, ∃ b, ({ s with draws := d } : State).seenBytes (a + k) 1 = some [b]) →
    ∃ cs t, s.loadEach a ks = some (cs, t)
  | [], s, _ => ⟨[], s, rfl⟩
  | k :: ks, s, h => by
    obtain ⟨b, hb⟩ := h k (by simp) s.draws
    have hb : s.seenBytes (a + k) 1 = some [b] := hb
    obtain ⟨cs, t, ht⟩ := loadEach_answers (ks := ks) (s := s.noteLoad (a + k) [b]) fun k' hk d =>
      h k' (List.mem_cons_of_mem k hk) d
    exact ⟨(a + k, b) :: cs, t, by simp [State.loadEach, hb, ht]⟩

/-- An aligned load is one access. -/
theorem loadBytes_aligned {s : State} {a n : Nat} (h : a % n = 0) :
    s.loadBytes a n = (s.seenBytes a n).map fun bs => (bs, s.noteLoad a bs) := by simp [State.loadBytes, h]

/-- The order of separate accesses names each byte once. -/
theorem accessOrder_perm (s : State) (a n : Nat) : (s.accessOrder a n).Perm (List.range n) := by
  unfold State.accessOrder
  split
  · next h => exact List.isPerm_iff.1 (by simpa using (Bool.and_eq_true_iff.1 h).2)
  · exact List.Perm.refl _

/-- A misaligned load is separate accesses of one byte, and its bytes are those they see. -/
theorem loadBytes_apart {s t : State} {a n : Nat} {bs : List Byte} (h : a % n ≠ 0)
    (hb : s.loadBytes a n = some (bs, t)) :
    ∃ cs, s.loadEach a (s.accessOrder a n) = some (cs, t) ∧
      bs = (List.range n).map fun k => (cs.lookup (a + k)).getD 0 := by
  simp only [State.loadBytes, h, if_false, Option.map_eq_some_iff, Prod.exists, Prod.mk.injEq] at hb
  obtain ⟨cs, t', hb, rfl, rfl⟩ := hb
  exact ⟨cs, hb, rfl⟩

/-- A load changes nothing but the model's record. -/
theorem loadBytes_draws {s t : State} {a n : Nat} {bs : List Byte} (h : s.loadBytes a n = some (bs, t)) :
    t = { s with draws := t.draws } := by
  by_cases ha : a % n = 0
  · simp only [loadBytes_aligned ha, Option.map_eq_some_iff, Prod.mk.injEq] at h
    obtain ⟨bs', -, -, rfl⟩ := h; rfl
  · obtain ⟨cs, h, -⟩ := loadBytes_apart ha h
    exact loadEach_draws h

/-- A load that succeeds. -/
theorem memRead_ok {s t : State} {addr : Word} {wd : Width} {v : Word} (h : s.memRead addr wd = .ok (v, t)) :
    checkAccess s.platform .read (s.platform.misaligned == .fault) addr wd = .ok () ∧
      ∃ bs, s.loadBytes addr.toNat (widthBytes wd) = some (bs, t) ∧ v = assemble s.platform.variant.endian bs := by
  obtain ⟨⟨⟩, hc, h⟩ := bind_ok (show _ >>= _ = _ from h)
  split at h
  · next bs t' hb =>
    obtain ⟨rfl, rfl⟩ := Prod.mk.inj (Except.ok.inj h)
    exact ⟨hc, bs, hb, rfl⟩
  · cases h

/-- The converse of `memRead_ok`. -/
theorem memRead_of {s t : State} {addr : Word} {wd : Width} {bs : List Byte}
    (hc : checkAccess s.platform .read (s.platform.misaligned == .fault) addr wd = .ok ())
    (hb : s.loadBytes addr.toNat (widthBytes wd) = some (bs, t)) :
    s.memRead addr wd = .ok (assemble s.platform.variant.endian bs, t) := by
  simp [State.memRead, hc, hb, pure, Except.pure]

/-- A store that succeeds. -/
theorem memWrite_ok {s t : State} {addr : Word} {wd : Width} {v : Word} (h : s.memWrite addr wd v = .ok t) :
    checkAccess s.platform .write (s.platform.misaligned == .fault) addr wd = .ok () ∧
      t = s.storeValue addr wd v := by
  obtain ⟨⟨⟩, hc, h⟩ := bind_ok (show _ >>= _ = _ from h)
  exact ⟨hc, (Except.ok.inj h).symm⟩

/-- An atomic event that succeeds: the old value, and the state after the update. -/
theorem atomically_ok {s t : State} {addr : Word} {wd : Width} {up : Word → Option Word} {old : Word}
    (h : s.atomically addr wd up = .ok (old, t)) :
    checkAccess s.platform .read true addr wd = .ok () ∧ checkAccess s.platform .write true addr wd = .ok () ∧
      ∃ bs, s.seenBytes addr.toNat (widthBytes wd) = some bs ∧ old = assemble s.platform.variant.endian bs ∧
        ((∃ v, up old = some v ∧ t = (s.noteLoad addr.toNat bs).storeValue addr wd v) ∨
          (up old = none ∧ t = s.noteLoad addr.toNat bs)) := by
  unfold State.atomically at h
  obtain ⟨⟨⟩, hr, h⟩ := bind_ok h
  obtain ⟨⟨⟩, hw, h⟩ := bind_ok h
  obtain ⟨⟨o, s1⟩, hf, h⟩ := bind_ok h
  obtain ⟨bs, hb, ho, rfl⟩ := fetchValue_ok hf
  refine ⟨hr, hw, bs, hb, ?_⟩
  dsimp only at h
  split at h
  · next v hv =>
    obtain ⟨rfl, rfl⟩ := Prod.mk.inj (Except.ok.inj h)
    exact ⟨ho, .inl ⟨v, hv, rfl⟩⟩
  · next hn =>
    obtain ⟨rfl, rfl⟩ := Prod.mk.inj (Except.ok.inj h)
    exact ⟨ho, .inr ⟨hn, rfl⟩⟩

/-- The converse of `fetchValue_ok`. -/
theorem fetchValue_of_seen {s : State} {addr : Word} {wd : Width} {bs : List Byte}
    (h : s.seenBytes addr.toNat (widthBytes wd) = some bs) :
    s.fetchValue addr wd = .ok (assemble s.platform.variant.endian bs, s.noteLoad addr.toNat bs) := by
  simp [State.fetchValue, h]

/-- An atomic event whose checks pass and whose bytes have values. -/
theorem atomically_of_seen {s : State} {addr : Word} {wd : Width} {bs : List Byte} (up : Word → Option Word)
    (hr : checkAccess s.platform .read true addr wd = .ok ())
    (hw : checkAccess s.platform .write true addr wd = .ok ())
    (hb : s.seenBytes addr.toNat (widthBytes wd) = some bs) :
    s.atomically addr wd up = .ok (assemble s.platform.variant.endian bs,
      match up (assemble s.platform.variant.endian bs) with
      | some v => (s.noteLoad addr.toNat bs).storeValue addr wd v
      | none => s.noteLoad addr.toNat bs) := by
  simp only [State.atomically, hr, hw, fetchValue_of_seen hb, ok_bind]
  cases up (assemble s.platform.variant.endian bs) <;> rfl

end Sys2Proof.Machine
end

