-- ==== Sys2Proof/Laws/Decode.lean ====
section
/-! SUPPORT. Fields and bytes, slots and bytes, register numbers: each way there and back. -/

namespace Sys2Proof

/-- A slot's fields are read back from its bytes. -/
@[simp] theorem slotFields_bytes (e : Endian) (f : Fields) (rest : List Byte) :
    slotFields e (f.bytes e ++ rest) = some (f, rest) := by
  obtain ⟨op, d, s, o, i⟩ := f
  cases e <;>
    · simp only [Fields.bytes, List.cons_append, List.nil_append, slotFields, Fields.ofBytes, Option.some.injEq,
        Prod.mk.injEq, Fields.mk.injEq, and_true, true_and]
      refine ⟨?_, ?_, ?_, ?_⟩ <;> · ext k hk; simp; try grind

/-- Bytes that hold a slot are the bytes of its fields. -/
theorem bytes_of_slotFields {e : Endian} {bytes rest : List Byte} {f : Fields}
    (h : slotFields e bytes = some (f, rest)) : bytes = f.bytes e ++ rest := by
  unfold slotFields at h
  split at h
  · next b0 b1 b2 b3 b4 b5 b6 b7 r =>
    simp only [Option.some.injEq, Prod.mk.injEq] at h
    obtain ⟨rfl, rfl⟩ := h
    cases e <;>
      · simp only [Fields.ofBytes, Fields.bytes, List.cons_append, List.nil_append, List.cons.injEq, and_true, true_and]
        refine ⟨?_, ?_, ?_, ?_, ?_, ?_, ?_⟩ <;> · ext k hk; simp; try grind
  · cases h

/-- A register that may be written, read back from its field. -/
@[simp] theorem decodeDst_regField (d : Dst) : decodeDst (regField d) = .ok d := by revert d; decide

/-- A register, read back from its field. -/
@[simp] theorem decodeReg_regField (r : Reg) : decodeReg (regField r) = .ok r := by revert r; decide

/-- The field of a register that decodes. -/
theorem regField_of_decodeDst {n : BitVec 4} {d : Dst} (h : decodeDst n = .ok d) : n = regField d := by
  revert n d; decide

/-- The field of a register that decodes. -/
theorem regField_of_decodeReg {n : BitVec 4} {r : Reg} (h : decodeReg n = .ok r) : n = regField r := by
  revert n r; decide

@[simp] theorem requireZero_zero (name : FieldName) (n : Nat) : requireZero name 0#n = .ok () := by
  simp [requireZero]

/-- A field that passes its check is zero. -/
theorem zero_of_requireZero {name : FieldName} {n : Nat} {x : BitVec n} {u : Unit}
    (h : requireZero name x = .ok u) : x = 0 := by
  unfold requireZero at h
  split at h
  · assumption
  · cases h

/-- A pattern is known by its number. -/
theorem eq_ofNat_of_toNat {n k : Nat} {x : BitVec n} (h : x.toNat = k) : x = BitVec.ofNat n k := by
  subst h; simp

/-- A displacement of 16 bits, sign-extended and cut back. -/
@[simp] theorem setWidth_signExtend_offset (c : BitVec 16) : (c.signExtend 32).setWidth 16 = c := by
  ext k hk; simp [BitVec.getLsbD_signExtend, hk]; omega

/-! ## What each decoder of a shape answers -/

/-- A decoding in two parts succeeds only if both do. -/
theorem decoded_bind {α β : Type} {x : Decoded α} {f : α → Decoded β} {b : β} (h : x >>= f = .ok b) :
    ∃ a, x = .ok a ∧ f a = .ok b := by
  cases x with
  | ok a => exact ⟨a, rfl, h⟩
  | error c => cases h

variable {f : Fields} {i : Instr}

theorem decodeAluK_ok {mk : Dst → Imm → Instr} (h : decodeAluK mk f = .ok i) :
    ∃ d, f = ⟨f.opcode, regField d, 0, 0, f.imm⟩ ∧ i = mk d f.imm := by
  unfold decodeAluK at h
  obtain ⟨_, h1, h⟩ := decoded_bind h
  obtain ⟨_, h2, h⟩ := decoded_bind h
  obtain ⟨d, h3, h⟩ := decoded_bind h
  exact ⟨d, by rw [← zero_of_requireZero h1, ← zero_of_requireZero h2, ← regField_of_decodeDst h3],
    (Except.ok.inj h).symm⟩

theorem decodeAluX_ok {mk : Dst → Reg → Instr} (h : decodeAluX mk f = .ok i) :
    ∃ d r, f = ⟨f.opcode, regField d, regField r, 0, 0⟩ ∧ i = mk d r := by
  unfold decodeAluX at h
  obtain ⟨_, h1, h⟩ := decoded_bind h
  obtain ⟨_, h2, h⟩ := decoded_bind h
  obtain ⟨d, h3, h⟩ := decoded_bind h
  obtain ⟨r, h4, h⟩ := decoded_bind h
  exact ⟨d, r, by rw [← zero_of_requireZero h1, ← zero_of_requireZero h2, ← regField_of_decodeDst h3,
    ← regField_of_decodeReg h4], (Except.ok.inj h).symm⟩

theorem decodeSwap_ok {m16 m32 m64 : Dst → Instr} (h : decodeSwap m16 m32 m64 f = .ok i) :
    ∃ d, (i = m16 d ∧ f = ⟨f.opcode, regField d, 0, 0, 16#32⟩) ∨ (i = m32 d ∧ f = ⟨f.opcode, regField d, 0, 0, 32#32⟩) ∨
      (i = m64 d ∧ f = ⟨f.opcode, regField d, 0, 0, 64#32⟩) := by
  unfold decodeSwap at h
  obtain ⟨_, h1, h'⟩ := decoded_bind h
  obtain ⟨_, h2, h''⟩ := decoded_bind h'
  clear h h'
  have e1 := zero_of_requireZero h1
  have e2 := zero_of_requireZero h2
  obtain ⟨o, a, b, c, e⟩ := f
  dsimp only at *
  subst e1 e2
  split at h''
  · next him =>
    obtain ⟨d, h3, h⟩ := decoded_bind h''
    exact ⟨d, .inl ⟨(Except.ok.inj h).symm, by rw [regField_of_decodeDst h3, eq_ofNat_of_toNat him]⟩⟩
  · next him =>
    obtain ⟨d, h3, h⟩ := decoded_bind h''
    exact ⟨d, .inr (.inl ⟨(Except.ok.inj h).symm, by rw [regField_of_decodeDst h3, eq_ofNat_of_toNat him]⟩)⟩
  · next him =>
    obtain ⟨d, h3, h⟩ := decoded_bind h''
    exact ⟨d, .inr (.inr ⟨(Except.ok.inj h).symm, by rw [regField_of_decodeDst h3, eq_ofNat_of_toNat him]⟩)⟩
  · cases h''

theorem decodeJumpK_ok {mk : Reg → Imm → Off → Instr} (h : decodeJumpK mk f = .ok i) :
    ∃ d, f = ⟨f.opcode, regField d, 0, f.offset, f.imm⟩ ∧ i = mk d f.imm f.offset := by
  unfold decodeJumpK at h
  obtain ⟨_, h1, h⟩ := decoded_bind h
  obtain ⟨d, h3, h⟩ := decoded_bind h
  exact ⟨d, by rw [← zero_of_requireZero h1, ← regField_of_decodeReg h3], (Except.ok.inj h).symm⟩

theorem decodeJumpX_ok {mk : Reg → Reg → Off → Instr} (h : decodeJumpX mk f = .ok i) :
    ∃ d r, f = ⟨f.opcode, regField d, regField r, f.offset, 0⟩ ∧ i = mk d r f.offset := by
  unfold decodeJumpX at h
  obtain ⟨_, h1, h⟩ := decoded_bind h
  obtain ⟨d, h3, h⟩ := decoded_bind h
  obtain ⟨r, h4, h⟩ := decoded_bind h
  exact ⟨d, r, by rw [← zero_of_requireZero h1, ← regField_of_decodeReg h3, ← regField_of_decodeReg h4],
    (Except.ok.inj h).symm⟩

theorem decodeLdx_ok {mk : Dst → Reg → Off → Instr} (h : decodeLdx mk f = .ok i) :
    ∃ d r, f = ⟨f.opcode, regField d, regField r, f.offset, 0⟩ ∧ i = mk d r f.offset := by
  unfold decodeLdx at h
  obtain ⟨_, h1, h⟩ := decoded_bind h
  obtain ⟨d, h3, h⟩ := decoded_bind h
  obtain ⟨r, h4, h⟩ := decoded_bind h
  exact ⟨d, r, by rw [← zero_of_requireZero h1, ← regField_of_decodeDst h3, ← regField_of_decodeReg h4],
    (Except.ok.inj h).symm⟩

theorem decodeSt_ok {mk : Reg → Off → Imm → Instr} (h : decodeSt mk f = .ok i) :
    ∃ d, f = ⟨f.opcode, regField d, 0, f.offset, f.imm⟩ ∧ i = mk d f.offset f.imm := by
  unfold decodeSt at h
  obtain ⟨_, h1, h⟩ := decoded_bind h
  obtain ⟨d, h3, h⟩ := decoded_bind h
  exact ⟨d, by rw [← zero_of_requireZero h1, ← regField_of_decodeReg h3], (Except.ok.inj h).symm⟩

theorem decodeStx_ok {mk : Reg → Reg → Off → Instr} (h : decodeStx mk f = .ok i) :
    ∃ d r, f = ⟨f.opcode, regField d, regField r, f.offset, 0⟩ ∧ i = mk d r f.offset := by
  unfold decodeStx at h
  obtain ⟨_, h1, h⟩ := decoded_bind h
  obtain ⟨d, h3, h⟩ := decoded_bind h
  obtain ⟨r, h4, h⟩ := decoded_bind h
  exact ⟨d, r, by rw [← zero_of_requireZero h1, ← regField_of_decodeReg h3, ← regField_of_decodeReg h4],
    (Except.ok.inj h).symm⟩

theorem decodeAtomic_ok {mk : Reg → Reg → Off → Instr} (h : decodeAtomic mk f = .ok i) :
    ∃ d r, f = ⟨f.opcode, regField d, regField r, f.offset, f.imm⟩ ∧ i = mk d r f.offset := by
  unfold decodeAtomic at h
  obtain ⟨d, h3, h⟩ := decoded_bind h
  obtain ⟨r, h4, h⟩ := decoded_bind h
  exact ⟨d, r, by rw [← regField_of_decodeReg h3, ← regField_of_decodeReg h4], (Except.ok.inj h).symm⟩

theorem decodeAtomicFetch_ok {mk : Reg → Dst → Off → Instr} (h : decodeAtomicFetch mk f = .ok i) :
    ∃ d r, f = ⟨f.opcode, regField d, regField r, f.offset, f.imm⟩ ∧ i = mk d r f.offset := by
  unfold decodeAtomicFetch at h
  obtain ⟨d, h3, h⟩ := decoded_bind h
  obtain ⟨r, h4, h⟩ := decoded_bind h
  exact ⟨d, r, by rw [← regField_of_decodeReg h3, ← regField_of_decodeDst h4], (Except.ok.inj h).symm⟩

/-! ## One slot is never too short -/

/-- A decoding in two parts is cut short only if one of them is. -/
theorem bind_ne_truncated {α β : Type} {x : Decoded α} {g : α → Decoded β} (hx : x ≠ .error .truncated)
    (hg : ∀ a, g a ≠ .error .truncated) : x >>= g ≠ .error .truncated := by
  cases x with
  | ok a => exact hg a
  | error e => exact fun h => hx (by cases e <;> first | rfl | cases h)

theorem requireZero_ne (name : FieldName) {n : Nat} (x : BitVec n) : requireZero name x ≠ .error .truncated := by
  unfold requireZero; split <;> simp

theorem decodeDst_ne (n : BitVec 4) : decodeDst n ≠ .error .truncated := by revert n; decide

theorem decodeReg_ne (n : BitVec 4) : decodeReg n ≠ .error .truncated := by revert n; decide

/-- The decoder of one slot never asks for more bytes. -/
theorem decodeBasic_ne (v : Variant) (f : Fields) : decodeBasic v f ≠ .error .truncated := by
  have ret : ∀ i : Instr, (pure i : Decoded Instr) ≠ .error .truncated := fun i => by simp [pure, Except.pure]
  have ret' : ∀ i : Instr, (.ok i : Decoded Instr) ≠ .error .truncated := fun i => by simp
  have aluK : ∀ mk, decodeAluK mk f ≠ .error .truncated := fun mk =>
    bind_ne_truncated (requireZero_ne _ _) fun _ => bind_ne_truncated (requireZero_ne _ _) fun _ =>
      bind_ne_truncated (decodeDst_ne _) fun _ => ret _
  have aluX : ∀ mk, decodeAluX mk f ≠ .error .truncated := fun mk =>
    bind_ne_truncated (requireZero_ne _ _) fun _ => bind_ne_truncated (requireZero_ne _ _) fun _ =>
      bind_ne_truncated (decodeDst_ne _) fun _ => bind_ne_truncated (decodeReg_ne _) fun _ => ret _
  have jumpK : ∀ mk, decodeJumpK mk f ≠ .error .truncated := fun mk =>
    bind_ne_truncated (requireZero_ne _ _) fun _ => bind_ne_truncated (decodeReg_ne _) fun _ => ret _
  have jumpX : ∀ mk, decodeJumpX mk f ≠ .error .truncated := fun mk =>
    bind_ne_truncated (requireZero_ne _ _) fun _ => bind_ne_truncated (decodeReg_ne _) fun _ =>
      bind_ne_truncated (decodeReg_ne _) fun _ => ret _
  have ldx : ∀ mk, decodeLdx mk f ≠ .error .truncated := fun mk =>
    bind_ne_truncated (requireZero_ne _ _) fun _ => bind_ne_truncated (decodeDst_ne _) fun _ =>
      bind_ne_truncated (decodeReg_ne _) fun _ => ret _
  have st : ∀ mk, decodeSt mk f ≠ .error .truncated := fun mk =>
    bind_ne_truncated (requireZero_ne _ _) fun _ => bind_ne_truncated (decodeReg_ne _) fun _ => ret _
  have stx : ∀ mk, decodeStx mk f ≠ .error .truncated := fun mk =>
    bind_ne_truncated (requireZero_ne _ _) fun _ => bind_ne_truncated (decodeReg_ne _) fun _ =>
      bind_ne_truncated (decodeReg_ne _) fun _ => ret _
  have atom : ∀ mk, decodeAtomic mk f ≠ .error .truncated := fun mk =>
    bind_ne_truncated (decodeReg_ne _) fun _ => bind_ne_truncated (decodeReg_ne _) fun _ => ret _
  have atomF : ∀ mk, decodeAtomicFetch mk f ≠ .error .truncated := fun mk =>
    bind_ne_truncated (decodeReg_ne _) fun _ => bind_ne_truncated (decodeDst_ne _) fun _ => ret _
  have atomW : decodeAtomicW f ≠ .error .truncated := by
    unfold decodeAtomicW; split <;> first | exact atom _ | exact atomF _ | simp
  have atomDW : decodeAtomicDW f ≠ .error .truncated := by
    unfold decodeAtomicDW; split <;> first | exact atom _ | exact atomF _ | simp
  have negX : ∀ mk, decodeNegX v mk f ≠ .error .truncated := fun mk => by
    unfold decodeNegX; split
    · simp
    · exact aluX _
  have negK : ∀ mk, decodeNegK v mk f ≠ .error .truncated := fun mk => by
    unfold decodeNegK; split
    · exact bind_ne_truncated (requireZero_ne _ _) fun _ => aluK _
    · exact aluK _
  have swap : ∀ a b c, decodeSwap a b c f ≠ .error .truncated := fun a b c =>
    bind_ne_truncated (requireZero_ne _ _) fun _ => bind_ne_truncated (requireZero_ne _ _) fun _ => by
      split <;> first | exact bind_ne_truncated (decodeDst_ne _) fun _ => ret _ | simp
  have ja : decodeJa f ≠ .error .truncated :=
    bind_ne_truncated (requireZero_ne _ _) fun _ => bind_ne_truncated (requireZero_ne _ _) fun _ =>
      bind_ne_truncated (requireZero_ne _ _) fun _ => ret _
  have exit : decodeExit f ≠ .error .truncated :=
    bind_ne_truncated (requireZero_ne _ _) fun _ => bind_ne_truncated (requireZero_ne _ _) fun _ =>
      bind_ne_truncated (requireZero_ne _ _) fun _ => bind_ne_truncated (requireZero_ne _ _) fun _ => ret _
  have call : decodeCall v f ≠ .error .truncated :=
    bind_ne_truncated (requireZero_ne _ _) fun _ => by
      split
      · exact bind_ne_truncated (requireZero_ne _ _) fun _ => ret _
      · split <;> exact bind_ne_truncated (requireZero_ne _ _) fun _ => ret _
      · exact bind_ne_truncated (requireZero_ne _ _) fun _ => ret _
      · simp
  unfold decodeBasic
  split <;> first
    | exact aluK _ | exact aluX _ | exact jumpK _ | exact jumpX _ | exact ldx _ | exact st _ | exact stx _ | exact atomW
    | exact atomDW | exact negX _ | exact negK _ | exact swap _ _ _ | exact ja | exact exit | exact call | simp

/-! ## Slots and their bytes -/

/-- A slot's bytes are eight. -/
@[simp] theorem length_slotBytes (w : Slot) : (slotBytes w).length = 8 := rfl

@[simp] theorem length_bytes (e : Endian) (f : Fields) : (f.bytes e).length = 8 := by cases e <;> rfl

/-- The slot made of eight bytes has those bytes. -/
theorem slotBytes_slotOfBytes (b0 b1 b2 b3 b4 b5 b6 b7 : Byte) :
    slotBytes (slotOfBytes [b0, b1, b2, b3, b4, b5, b6, b7]) = [b0, b1, b2, b3, b4, b5, b6, b7] := by
  simp only [slotBytes, slotOfBytes, List.cons.injEq, and_true]
  refine ⟨?_, ?_, ?_, ?_, ?_, ?_, ?_, ?_⟩ <;> · ext k hk; simp [hk]; try grind

end Sys2Proof
end

