-- ==== Sys2Proof/Laws/Memory.lean ====
section
/-! SUPPORT. The laws of memory: a read after a write, the canonical form, and the bytes of a value. -/

namespace Sys2Proof.Machine

/-! ## The canonical form -/

/-- Every listed address lies at or above `lo` and below 2^64, strictly rising: the canonical form, in the shape an
induction needs. -/
def Memory.from (lo : Nat) : Memory → Prop
  | [] => True
  | (a, _) :: m => lo ≤ a ∧ a < 2 ^ 64 ∧ Memory.from (a + 1) m

theorem wf_cons_iff (a : Nat) (b : Byte) : ∀ m : Memory,
    Memory.wf ((a, b) :: m) = true ↔ a < 2 ^ 64 ∧ Memory.from (a + 1) m
  | [] => by simp [Memory.wf, Memory.from]
  | (a', b') :: m => by
    have := wf_cons_iff a' b' m
    simp only [Memory.wf, Bool.and_eq_true, decide_eq_true_eq, this, Memory.from]
    constructor
    · rintro ⟨h1, h2, h3⟩; exact ⟨by omega, by omega, h2, h3⟩
    · rintro ⟨h1, h2, h3, h4⟩; exact ⟨by omega, h3, h4⟩

/-- The canonical form, as an induction sees it. -/
theorem wf_iff_from (m : Memory) : m.wf = true ↔ m.from 0 := by
  cases m with
  | nil => simp [Memory.wf, Memory.from]
  | cons c m => obtain ⟨a, b⟩ := c; simp [wf_cons_iff, Memory.from]

theorem from_mono {lo lo' : Nat} (h : lo' ≤ lo) : ∀ {m : Memory}, m.from lo → m.from lo'
  | [], _ => trivial
  | _ :: _, hm => ⟨by have := hm.1; omega, hm.2⟩

theorem write_from {lo x : Nat} {v : Byte} (hx : lo ≤ x) (hb : x < 2 ^ 64) :
    ∀ {m : Memory}, m.from lo → (m.write x v).from lo := by
  intro m
  induction m generalizing lo with
  | nil => intro _; exact ⟨hx, hb, trivial⟩
  | cons c m ih =>
    obtain ⟨a, b⟩ := c
    intro hm
    simp only [Memory.write]
    split
    · next h => exact ⟨hx, hb, by omega, hm.2.1, hm.2.2⟩
    · split
      · next h => subst h; exact ⟨hx, hb, hm.2.2⟩
      · exact ⟨hm.1, hm.2.1, ih (by omega) hm.2.2⟩

/-- A write keeps the canonical form. -/
theorem write_wf {m : Memory} {x : Nat} {v : Byte} (h : m.wf = true) (hb : x < 2 ^ 64) : (m.write x v).wf = true := by
  rw [wf_iff_from] at h ⊢; exact write_from (Nat.zero_le _) hb h

theorem filter_from {p : Host.Cell → Bool} : ∀ {m : Memory} {lo : Nat}, m.from lo → Memory.from lo (m.filter p)
  | [], _, _ => trivial
  | (a, b) :: m, lo, h => by
    rw [List.filter_cons]
    split
    · exact ⟨h.1, h.2.1, filter_from h.2.2⟩
    · exact filter_from (from_mono (by have := h.1; omega) h.2.2)

/-- Bytes losing their values keep the canonical form. -/
theorem forget_wf {m : Memory} {lo hi : Nat} (h : m.wf = true) : (m.forget lo hi).wf = true := by
  rw [wf_iff_from] at h ⊢; exact filter_from h

/-- Writing several bytes keeps the canonical form. -/
theorem writeAll_wf : ∀ {bs : List Byte} {m : Memory} {a : Nat}, m.wf = true → a + bs.length ≤ 2 ^ 64 →
    (m.writeAll a bs).wf = true
  | [], _, _, h, _ => h
  | _ :: bs, _, _, h, hb => by
    simp only [List.length_cons] at hb
    exact writeAll_wf (bs := bs) (write_wf h (by omega)) (by omega)

/-- What a helper writes keeps the canonical form. -/
theorem applyWrites_wf {p : Platform} : ∀ {ws : List (Word × Byte)} {m : Memory}, m.wf = true →
    (m.applyWrites p ws).wf = true
  | [], _, h => h
  | (a, b) :: ws, m, h => by
    simp only [Memory.applyWrites]
    refine applyWrites_wf ?_
    split
    · exact write_wf h a.isLt
    · exact h

/-- The reset memory is in canonical form. -/
theorem reset_mem_wf : State.reset.mem.wf = true := rfl

/-! ## Reading after writing -/

theorem read_of_from {x : Nat} : ∀ {m : Memory} {lo : Nat}, m.from lo → x < lo → m.read x = none
  | [], _, _, _ => rfl
  | (a, b) :: m, lo, h, hx => by
    have := h.1
    simp only [Memory.read]
    rw [if_neg (by omega)]
    exact read_of_from h.2.2 (by omega)

/-- Reading the byte just written gives it, and every other byte reads as before. -/
theorem read_write (m : Memory) (x y : Nat) (v : Byte) :
    (m.write x v).read y = if y = x then some v else m.read y := by
  induction m with
  | nil => simp [Memory.write, Memory.read]
  | cons c m ih =>
    obtain ⟨a, b⟩ := c
    simp only [Memory.write]
    split
    · rfl
    · split
      · next h => subst h; by_cases hy : y = x <;> simp [Memory.read, hy]
      · next h1 h2 =>
        simp only [Memory.read, ih]
        by_cases hy : y = a
        · subst hy; simp [Ne.symm h2]
        · simp [hy]

/-- Reading after several bytes were written at rising addresses. -/
theorem read_writeAll : ∀ (bs : List Byte) (m : Memory) (a y : Nat),
    (m.writeAll a bs).read y = if a ≤ y ∧ y < a + bs.length then bs[y - a]? else m.read y
  | [], m, a, y => by simp only [Memory.writeAll, List.length_nil]; rw [if_neg (by omega)]
  | b :: bs, m, a, y => by
    simp only [Memory.writeAll, read_writeAll bs, read_write, List.length_cons]
    by_cases h : y = a
    · subst h; rw [if_neg (by omega), if_pos (by omega)]; simp
    · by_cases h1 : a + 1 ≤ y ∧ y < a + 1 + bs.length
      · rw [if_pos h1, if_pos (by omega)]
        obtain ⟨k, rfl⟩ : ∃ k, y = a + 1 + k := ⟨y - (a + 1), by omega⟩
        rw [show a + 1 + k - (a + 1) = k by omega, show a + 1 + k - a = k + 1 by omega, List.getElem?_cons_succ]
      · rw [if_neg h1, if_neg h, if_neg (by omega)]

/-- Reading after bytes lost their values. -/
theorem read_forget (m : Memory) (lo hi y : Nat) :
    (m.forget lo hi).read y = if lo ≤ y ∧ y < hi then none else m.read y := by
  induction m with
  | nil => simp [Memory.forget, Memory.read]
  | cons c m ih =>
    obtain ⟨a, b⟩ := c
    have ih' : Memory.read (List.filter (fun c => decide (c.1 < lo) || decide (hi ≤ c.1)) m) y = _ := ih
    simp only [Memory.forget, List.filter_cons]
    by_cases hk : a < lo ∨ hi ≤ a
    · rw [if_pos (by simpa using hk)]
      simp only [Memory.read, ih']
      by_cases hy : y = a
      · subst hy; rw [if_pos rfl, if_pos rfl, if_neg (by omega)]
      · rw [if_neg hy, if_neg hy]
    · rw [if_neg (by simpa using hk), ih']
      by_cases hy : lo ≤ y ∧ y < hi
      · rw [if_pos hy, if_pos hy]
      · rw [if_neg hy, if_neg hy]
        simp only [Memory.read]
        rw [if_neg (by omega)]

/-- A byte a helper did not write, or that lies in no granted region, reads as before. -/
theorem read_applyWrites_other {p : Platform} {x : Nat} : ∀ {ws : List (Word × Byte)} {m : Memory},
    (∀ w ∈ ws, w.1.toNat = x → granted p x = false) → (m.applyWrites p ws).read x = m.read x
  | [], _, _ => rfl
  | (a, b) :: ws, m, h => by
    have h0 := h (a, b) (List.mem_cons_self ..)
    simp only [Memory.applyWrites]
    rw [read_applyWrites_other fun w hw => h w (List.mem_cons_of_mem _ hw)]
    split
    · next hg =>
      rw [read_write, if_neg]
      rintro rfl; simp [hg] at h0
    · rfl

/-- The last byte a helper wrote to an address of a granted region is the byte there. -/
theorem read_applyWrites_last {p : Platform} {a : Word} {b : Byte} {after : List (Word × Byte)}
    (hl : ∀ w ∈ after, w.1 ≠ a) (hg : granted p a.toNat = true) : ∀ {before : List (Word × Byte)} {m : Memory},
    (m.applyWrites p (before ++ (a, b) :: after)).read a.toNat = some b
  | [], m => by
    simp only [List.nil_append, Memory.applyWrites, hg, if_true]
    rw [read_applyWrites_other fun w hw e => absurd (BitVec.eq_of_toNat_eq e) (hl w hw), read_write, if_pos rfl]
  | (_, _) :: before, m => by
    simp only [List.cons_append, Memory.applyWrites]
    exact read_applyWrites_last hl hg

/-! ## Which bytes are listed -/

/-- Every listed byte lies where `P` says. -/
theorem mem_write {P : Nat → Prop} {x : Nat} {v : Byte} (hx : P x) : ∀ {m : Memory}, (∀ c ∈ m, P c.1) →
    ∀ c ∈ m.write x v, P c.1
  | [], _, c, hc => by
    simp only [Memory.write, List.mem_singleton] at hc; subst hc; exact hx
  | (a, b) :: m, hm, c, hc => by
    have h0 := hm (a, b) (List.mem_cons_self ..)
    have h1 : ∀ c ∈ m, P c.1 := fun c h => hm c (List.mem_cons_of_mem _ h)
    simp only [Memory.write] at hc
    split at hc
    · rcases List.mem_cons.mp hc with rfl | hc
      · exact hx
      · exact hm c hc
    · split at hc
      · rcases List.mem_cons.mp hc with rfl | hc
        · exact hx
        · exact h1 c hc
      · rcases List.mem_cons.mp hc with rfl | hc
        · exact h0
        · exact mem_write hx h1 c hc

theorem mem_writeAll {P : Nat → Prop} : ∀ {bs : List Byte} {m : Memory} {a : Nat},
    (∀ x, a ≤ x → x < a + bs.length → P x) → (∀ c ∈ m, P c.1) → ∀ c ∈ m.writeAll a bs, P c.1
  | [], _, _, _, hm => hm
  | b :: bs, m, a, hP, hm => by
    simp only [List.length_cons] at hP
    exact mem_writeAll (bs := bs) (fun x h1 h2 => hP x (by omega) (by omega))
      (mem_write (hP a (by omega) (by omega)) hm)

theorem mem_applyWrites {p : Platform} : ∀ {ws : List (Word × Byte)} {m : Memory},
    (∀ c ∈ m, granted p c.1 = true) → ∀ c ∈ m.applyWrites p ws, granted p c.1 = true
  | [], _, hm => hm
  | (a, b) :: ws, m, hm => by
    simp only [Memory.applyWrites]
    refine mem_applyWrites (ws := ws) ?_
    split
    · next hg => exact mem_write (P := fun x => granted p x = true) hg hm
    · exact hm

/-! ## The bytes of a value -/

@[simp] theorem length_valueBytes (n : Nat) (v : Word) : (valueBytes n v).length = n := by
  induction n generalizing v with
  | zero => rfl
  | succ n ih => simp [valueBytes, ih]

@[simp] theorem length_disassemble (e : Endian) (n : Nat) (v : Word) : (disassemble e n v).length = n := by
  cases e <;> simp [disassemble]

/-- Byte `k` of a value, from the least significant. -/
theorem getElem?_valueBytes (n : Nat) (v : Word) (k : Nat) (h : k < n) :
    (valueBytes n v)[k]? = some (v.extractLsb' (8 * k) 8) := by
  induction n generalizing v k with
  | zero => omega
  | succ n ih =>
    cases k with
    | zero =>
      simp only [valueBytes, List.getElem?_cons_zero, Option.some.injEq]
      ext i hi; simp
    | succ k =>
      simp only [valueBytes, List.getElem?_cons_succ]
      rw [ih _ _ (by omega)]
      congr 1
      ext i hi
      simp only [BitVec.getElem_extractLsb', BitVec.getLsbD_ushiftRight]
      congr 1; omega

/-- Byte `k` of the value of bytes is the byte listed at `k`. -/
theorem extractLsb'_bytesValue : ∀ (bs : List Byte) (k : Nat), bs.length ≤ 8 → (h : k < bs.length) →
    (bytesValue bs).extractLsb' (8 * k) 8 = bs[k]
  | [], k, _, h => by simp at h
  | b :: bs, 0, hl, _ => by
    ext i hi
    simp [bytesValue, hi]
    omega
  | b :: bs, k + 1, hl, h => by
    simp only [List.length_cons] at hl h
    rw [List.getElem_cons_succ, ← extractLsb'_bytesValue bs k (by omega) (by omega)]
    ext i hi
    simp only [bytesValue, BitVec.getElem_extractLsb', BitVec.getLsbD_or, BitVec.getLsbD_shiftLeft,
      BitVec.getLsbD_setWidth]
    rw [show (8 * (k + 1) + i - 8) = 8 * k + i by omega]
    have : b.getLsbD (8 * (k + 1) + i) = false := BitVec.getLsbD_of_ge _ _ (by omega)
    simp [this]
    omega

/-- The value of `n` bytes is below 2^(8n). -/
theorem bytesValue_lt : ∀ (bs : List Byte), (bytesValue bs).toNat < 2 ^ (8 * bs.length)
  | [] => by simp [bytesValue]
  | b :: bs => by
    have ih := bytesValue_lt bs
    have hb := b.isLt
    simp only [bytesValue, List.length_cons, BitVec.toNat_or, BitVec.toNat_shiftLeft, BitVec.toNat_setWidth]
    have e : 2 ^ (8 * (bs.length + 1)) = 2 ^ (8 * bs.length) * 2 ^ 8 := by rw [← pow_add]; congr 1
    have pos : 0 < 2 ^ (8 * bs.length) := by positivity
    refine Nat.or_lt_two_pow ?_ ?_
    · refine lt_of_le_of_lt (Nat.mod_le _ _) ?_
      rw [e]; nlinarith
    · refine lt_of_le_of_lt (Nat.mod_le _ _) ?_
      rw [e, Nat.shiftLeft_eq]; exact Nat.mul_lt_mul_of_pos_right ih (by norm_num)

/-- Taking a value apart and putting it together again keeps its low bytes. -/
theorem bytesValue_valueBytes (n : Nat) (v : Word) :
    bytesValue (valueBytes n v) = BitVec.ofNat 64 (v.toNat % 2 ^ (8 * n)) := by
  induction n generalizing v with
  | zero => simp [valueBytes, bytesValue, Nat.mod_one]
  | succ n ih =>
    ext i hi
    have := congrArg (fun w => BitVec.getLsbD w (i - 8)) (ih (v >>> 8))
    simp only [BitVec.getLsbD_ofNat, Nat.testBit_mod_two_pow, BitVec.toNat_ushiftRight, Nat.testBit_shiftRight] at this
    simp only [valueBytes, bytesValue, BitVec.getElem_or, BitVec.getElem_shiftLeft, BitVec.getElem_setWidth]
    rw [← BitVec.getLsbD_eq_getElem (x := BitVec.ofNat 64 _), BitVec.getLsbD_ofNat, Nat.testBit_mod_two_pow]
    by_cases h8 : i < 8
    · simp [h8, hi, show i < 8 * (n + 1) by omega, BitVec.getLsbD]
      rw [show (256 : ℕ) = 2 ^ 8 from rfl, Nat.testBit_mod_two_pow]
      simp [h8]
    · simp [h8, hi, this, show i - 8 < 64 by omega, show 8 + (i - 8) = i by omega,
        show (i - 8 < 8 * n) = (i < 8 * (n + 1)) by simp; omega, ← BitVec.getLsbD_eq_getElem]

/-- What a value taken apart in a byte order is, put together in the same one. -/
theorem assemble_disassemble (e : Endian) (n : Nat) (v : Word) :
    assemble e (disassemble e n v) = BitVec.ofNat 64 (v.toNat % 2 ^ (8 * n)) := by
  cases e <;> simp [assemble, disassemble, bytesValue_valueBytes]

/-! ## The bytes a load sees -/

/-- Bytes looked up together are the bytes looked up one by one. -/
theorem bytesFrom_some {look : Nat → Option Byte} : ∀ {n a : Nat} {bs : List Byte}, bytesFrom look a n = some bs →
    bs.length = n ∧ ∀ k (h : k < bs.length), look (a + k) = some bs[k]
  | 0, a, bs, h => by
    simp only [bytesFrom, Option.some.injEq] at h; subst h; simp
  | n + 1, a, bs, h => by
    simp only [bytesFrom] at h
    split at h
    · next b bs' hb hbs =>
      simp only [Option.some.injEq] at h; subst h
      obtain ⟨hl, hk⟩ := bytesFrom_some hbs
      refine ⟨by simp [hl], fun k hk' => ?_⟩
      cases k with
      | zero => simpa using hb
      | succ k =>
        have := hk k (by simpa using hk')
        rw [show a + (k + 1) = a + 1 + k by omega, this]; simp
    · cases h

/-- The converse: bytes that can each be looked up are looked up together. -/
theorem bytesFrom_of {look : Nat → Option Byte} : ∀ {bs : List Byte} {a : Nat},
    (∀ k (h : k < bs.length), look (a + k) = some bs[k]) → bytesFrom look a bs.length = some bs
  | [], _, _ => rfl
  | b :: bs, a, h => by
    have h0 := h 0 (by simp)
    have h1 := bytesFrom_of (look := look) (bs := bs) (a := a + 1) fun k hk => by
      have := h (k + 1) (by simpa using hk)
      simpa [show a + (k + 1) = a + 1 + k by omega] using this
    simp only [Nat.add_zero, List.getElem_cons_zero] at h0
    simp [bytesFrom, h0, h1]

/-- One byte that cannot be looked up is enough for none. -/
theorem bytesFrom_none {look : Nat → Option Byte} : ∀ {n a k : Nat}, k < n → look (a + k) = none →
    bytesFrom look a n = none
  | n + 1, a, 0, _, h => by
    rw [Nat.add_zero] at h; simp [bytesFrom, h]
  | n + 1, a, k + 1, hk, h => by
    have := bytesFrom_none (look := look) (n := n) (a := a + 1) (k := k) (by omega)
      (by rwa [show a + 1 + k = a + (k + 1) by omega])
    simp only [bytesFrom, this]
    cases look a <;> rfl

/-- Whatever a choice falls on is one of the things to choose from. -/
theorem pick_mem {α : Type} {c : Nat} {x : α} : ∀ {l : List α}, pick c l = some x → x ∈ l
  | [], h => by cases h
  | [a], h => by simp only [pick, Option.some.injEq] at h; simp [h]
  | a :: b :: l, h => by
    simp only [pick, Option.some.injEq] at h
    rw [← h, List.getD_eq_getElem _ _ (by simp only [List.length_cons]; exact Nat.mod_lt _ (by omega))]
    exact List.getElem_mem _

/-- There is a choice wherever there is something to choose. -/
theorem pick_isSome {α : Type} (c : Nat) : ∀ {l : List α}, l ≠ [] → ∃ x, pick c l = some x
  | [], h => absurd rfl h
  | [a], _ => ⟨a, rfl⟩
  | _ :: _ :: _, _ => ⟨_, rfl⟩

/-- Nothing falls on nothing. -/
theorem pick_none {α : Type} {c : Nat} {l : List α} (h : pick c l = none) : l = [] := by
  by_contra hl
  obtain ⟨x, hx⟩ := pick_isSome c hl
  rw [hx] at h; cases h

/-- An answer the rules of `MEMORY_MODEL` allow: that of a rule whose condition holds. -/
theorem mem_allowedAnswers {v : View} {rules : List AnswerRule} {w : Word} :
    w ∈ allowedAnswers v rules ↔ ∃ r ∈ rules, holds v r.condition = true ∧ evalTerm v [] r.answer = w := by
  simp [allowedAnswers, and_assoc]

/-- An outcome the rules of a helper allow: that of a rule whose condition holds. -/
theorem mem_allowedOutcomes {v : View} {rules : List HelperRule} {o : HelperOutcome} :
    o ∈ allowedOutcomes v rules ↔ ∃ r ∈ rules, holds v r.condition = true ∧ resultOutcome v r.result = o := by
  simp [allowedOutcomes, and_assoc]

/-- What a helper whose relation is given by rules can come to: an outcome they allow, or no result where they allow
none. -/
theorem helperOutcome_relation {s : State} {h : Helper} {rules : List HelperRule} {args : List Word}
    (hb : h.behaviour = .relation rules) :
    s.helperOutcome h args ∈ s.helperOutcomes rules args ∨
      s.helperOutcomes rules args = [] ∧ s.helperOutcome h args = .doesNotReturn := by
  simp only [State.helperOutcome, hb]
  cases hp : pick (Config.helperChoice s.draws.count) (s.helperOutcomes rules args) with
  | some o => exact .inl (by simpa using pick_mem hp)
  | none => exact .inr ⟨pick_none hp, rfl⟩

/-- Outside the shared regions, and where the rules of `MEMORY_MODEL` allow nothing else, a load sees the program's own bytes. -/
theorem seenBytes_own {s : State} {a n : Nat}
    (h : isShared s.platform a = false ∨
      ∃ rules, s.platform.memoryModel = .relation rules ∧ s.sharedAnswers rules a n = []) :
    s.seenBytes a n = bytesFrom s.ownByte a n := by
  rcases h with h | ⟨rules, h, hr⟩
  · simp [State.seenBytes, h]
  · simp [State.seenBytes, h, hr, pick]

/-- In a shared region whose rules allow an answer, a load sees an answer they allow. -/
theorem seenBytes_answer {s : State} {a n : Nat} {rules : List AnswerRule} (h : isShared s.platform a = true)
    (hm : s.platform.memoryModel = .relation rules) (hr : s.sharedAnswers rules a n ≠ []) :
    ∃ v ∈ s.sharedAnswers rules a n, s.seenBytes a n = some (disassemble s.platform.variant.endian n v) := by
  obtain ⟨v, hv⟩ := pick_isSome (Config.answerChoice s.draws.count (loadArgs a n)) hr
  exact ⟨v, pick_mem hv, by simp [State.seenBytes, h, hm, hv]⟩

/-- A load sees as many bytes as it asks for. -/
theorem seenBytes_length {s : State} {a n : Nat} {bs : List Byte} (h : s.seenBytes a n = some bs) : bs.length = n := by
  unfold State.seenBytes at h
  split at h
  · split at h
    · exact (bytesFrom_some h).1
    · split at h
      · obtain rfl := Option.some.inj h; simp
      · exact (bytesFrom_some h).1
  · exact (bytesFrom_some h).1

/-- The latest answer at each address of a listing. -/
theorem lookup_cellsFrom : ∀ {bs : List Byte} {a k : Nat} {l : List Host.Cell} (h : k < bs.length),
    (cellsFrom a bs ++ l).lookup (a + k) = some bs[k]
  | b :: bs, a, 0, l, _ => by simp [cellsFrom]
  | b :: bs, a, k + 1, l, h => by
    have := lookup_cellsFrom (bs := bs) (a := a + 1) (k := k) (l := l) (by simpa using h)
    simp only [cellsFrom, List.cons_append, List.lookup_cons, List.getElem_cons_succ]
    rw [show (a + (k + 1) == a) = false by simp, ← this]
    simp [show a + (k + 1) = a + 1 + k by omega]

end Sys2Proof.Machine
end

