-- ==== Sys2Proof/Laws/Meanings.lean ====
section
/-! SUPPORT. For the shape of each family of instructions, two lemmas: its result where its operands can be read and its
access passes, and all it can do when it answers a next state. -/

namespace Sys2Proof.Machine

variable {s s1 s2 s3 t : State} {dst : Dst} {base dr src : Reg} {o : Operand} {off : Off} {imm : Imm} {a b v : Word}
  {h h' : Half} {wd : Width} {bs : List Byte}

/-! ## Arithmetic -/

theorem alu64_of {f : Word → Word → Word} (h1 : s.readReg dst.castSucc = .ok (a, s1))
    (h2 : s1.operand64 o = .ok (b, s2)) : alu64 f dst o s = .next ((s2.writeReg dst (f a b)).advance 1) := by
  simp [alu64, h1, h2, pure, Except.pure]

theorem alu32_of {f : Half → Half → Half} (h1 : s.readReg dst.castSucc = .ok (a, s1))
    (h2 : s1.operand32 o = .ok (h, s2)) :
    alu32 f dst o s = .next ((s2.writeReg dst (zext64 (f (low32 a) h))).advance 1) := by
  simp [alu32, h1, h2, pure, Except.pure]

theorem divide64_of {f : Word → Word → Word} (h1 : s.operand64 o = .ok (b, s1))
    (h2 : s1.readReg dst.castSucc = .ok (a, s2)) :
    divide64 f dst o s = .next ((s2.writeReg dst (f a b)).advance 1) := by
  simp [divide64, h1, h2, pure, Except.pure]

theorem divide32_of {f : Half → Half → Half} (h1 : s.operand32 o = .ok (h, s1))
    (h2 : s1.readReg dst.castSucc = .ok (a, s2)) :
    divide32 f dst o s = .next ((s2.writeReg dst (zext64 (f (low32 a) h))).advance 1) := by
  simp [divide32, h1, h2, pure, Except.pure]

theorem set64_of {f : Word → Word} (h1 : s.operand64 o = .ok (b, s1)) :
    set64 f dst o s = .next ((s1.writeReg dst (f b)).advance 1) := by
  simp [set64, h1, pure, Except.pure]

theorem set32_of {f : Half → Half} (h1 : s.operand32 o = .ok (h, s1)) :
    set32 f dst o s = .next ((s1.writeReg dst (zext64 (f h))).advance 1) := by
  simp [set32, h1, pure, Except.pure]

theorem swapReg_of {f : Word → Word} (h1 : s.readReg dst.castSucc = .ok (a, s1)) :
    swapReg f dst s = .next ((s1.writeReg dst (f a)).advance 1) := by
  simp [swapReg, h1, pure, Except.pure]

/-- An operand register of the 32-bit classes: the low half of what it reads as. -/
theorem operand32_reg (h1 : s.readReg src = .ok (b, s1)) : s.operand32 (.reg src) = .ok (low32 b, s1) := by
  simp [State.operand32, h1, Except.map]

/-- What a register-writing instruction can do: its fault, or its destination and the program counter. -/
def WritesOnly (s t : State) (dst : Dst) (n : Int) : Prop :=
  (∃ c, t = s.raise c) ∨ ∃ (v : Word) (k : Draws), t = (State.writeReg { s with draws := k } dst v).advance n

theorem alu64_next {f : Word → Word → Word} (hn : alu64 f dst o s = .next t) : WritesOnly s t dst 1 := by
  obtain hk | ⟨c, -, rfl⟩ := settle_next hn
  · obtain ⟨⟨a, s1⟩, h1, hk⟩ := bind_ok hk
    obtain ⟨⟨b, s2⟩, h2, hk⟩ := bind_ok hk
    refine .inr ⟨f a b, s2.draws, ?_⟩
    rw [← Except.ok.inj hk]
    rw [operand64_state h2, readReg_state h1]
  · exact .inl ⟨c, rfl⟩

theorem alu32_next {f : Half → Half → Half} (hn : alu32 f dst o s = .next t) : WritesOnly s t dst 1 := by
  obtain hk | ⟨c, -, rfl⟩ := settle_next hn
  · obtain ⟨⟨a, s1⟩, h1, hk⟩ := bind_ok hk
    obtain ⟨⟨b, s2⟩, h2, hk⟩ := bind_ok hk
    refine .inr ⟨zext64 (f (low32 a) b), s2.draws, ?_⟩
    rw [← Except.ok.inj hk]
    rw [operand32_state h2, readReg_state h1]
  · exact .inl ⟨c, rfl⟩

theorem divide64_next {f : Word → Word → Word} (hn : divide64 f dst o s = .next t) : WritesOnly s t dst 1 := by
  obtain hk | ⟨c, -, rfl⟩ := settle_next hn
  · obtain ⟨⟨b, s1⟩, h1, hk⟩ := bind_ok hk
    obtain ⟨⟨a, s2⟩, h2, hk⟩ := bind_ok hk
    refine .inr ⟨f a b, s2.draws, ?_⟩
    rw [← Except.ok.inj hk]
    rw [readReg_state h2, operand64_state h1]
  · exact .inl ⟨c, rfl⟩

theorem divide32_next {f : Half → Half → Half} (hn : divide32 f dst o s = .next t) : WritesOnly s t dst 1 := by
  obtain hk | ⟨c, -, rfl⟩ := settle_next hn
  · obtain ⟨⟨b, s1⟩, h1, hk⟩ := bind_ok hk
    obtain ⟨⟨a, s2⟩, h2, hk⟩ := bind_ok hk
    refine .inr ⟨zext64 (f (low32 a) b), s2.draws, ?_⟩
    rw [← Except.ok.inj hk]
    rw [readReg_state h2, operand32_state h1]
  · exact .inl ⟨c, rfl⟩

theorem set64_next {f : Word → Word} (hn : set64 f dst o s = .next t) : WritesOnly s t dst 1 := by
  obtain hk | ⟨c, -, rfl⟩ := settle_next hn
  · obtain ⟨⟨a, s1⟩, h1, hk⟩ := bind_ok hk
    refine .inr ⟨f a, s1.draws, ?_⟩
    rw [← Except.ok.inj hk]
    rw [operand64_state h1]
  · exact .inl ⟨c, rfl⟩

theorem set32_next {f : Half → Half} (hn : set32 f dst o s = .next t) : WritesOnly s t dst 1 := by
  obtain hk | ⟨c, -, rfl⟩ := settle_next hn
  · obtain ⟨⟨a, s1⟩, h1, hk⟩ := bind_ok hk
    refine .inr ⟨zext64 (f a), s1.draws, ?_⟩
    rw [← Except.ok.inj hk]
    rw [operand32_state h1]
  · exact .inl ⟨c, rfl⟩

theorem swapReg_next {f : Word → Word} (hn : swapReg f dst s = .next t) : WritesOnly s t dst 1 := by
  obtain hk | ⟨c, -, rfl⟩ := settle_next hn
  · obtain ⟨⟨a, s1⟩, h1, hk⟩ := bind_ok hk
    refine .inr ⟨f a, s1.draws, ?_⟩
    rw [← Except.ok.inj hk]
    rw [readReg_state h1]
  · exact .inl ⟨c, rfl⟩

theorem loadConst_next (hn : loadConst dst v s = .next t) : WritesOnly s t dst 2 :=
  .inr ⟨v, s.draws, by simpa [loadConst] using hn.symm⟩

theorem loadLookup_next {k : Nat} {found : Option Word} (hn : loadLookup k imm dst found s = .next t) :
    WritesOnly s t dst 2 := by
  cases found with
  | some v => exact loadConst_next hn
  | none => exact .inl ⟨_, by simpa [loadLookup] using hn.symm⟩

/-! ## Jumps -/

theorem condJump64_of {cond : Word → Word → Bool} (h1 : s.readReg dr = .ok (a, s1))
    (h2 : s1.operand64 o = .ok (b, s2)) : condJump64 cond dr o off s = .next (s2.branch (cond a b) off) := by
  simp [condJump64, h1, h2, pure, Except.pure]

theorem condJump32_of {cond : Half → Half → Bool} (h1 : s.readReg dr = .ok (a, s1))
    (h2 : s1.operand32 o = .ok (h, s2)) :
    condJump32 cond dr o off s = .next (s2.branch (cond (low32 a) h) off) := by
  simp [condJump32, h1, h2, pure, Except.pure]

/-- What a jump can do: its fault, or the program counter. -/
def MovesOnly (s t : State) : Prop :=
  (∃ c, t = s.raise c) ∨ ∃ (p : Int) (k : Draws), t = { s with pc := p, draws := k }

theorem condJump64_next {cond : Word → Word → Bool} (hn : condJump64 cond dr o off s = .next t) : MovesOnly s t := by
  obtain hk | ⟨c, -, rfl⟩ := settle_next hn
  · obtain ⟨⟨a, s1⟩, h1, hk⟩ := bind_ok hk
    obtain ⟨⟨b, s2⟩, h2, hk⟩ := bind_ok hk
    have := (Except.ok.inj hk).symm
    rw [branch_eq] at this
    refine .inr ⟨t.pc, s2.draws, ?_⟩
    rw [this, operand64_state h2, readReg_state h1]
  · exact .inl ⟨c, rfl⟩

theorem condJump32_next {cond : Half → Half → Bool} (hn : condJump32 cond dr o off s = .next t) : MovesOnly s t := by
  obtain hk | ⟨c, -, rfl⟩ := settle_next hn
  · obtain ⟨⟨a, s1⟩, h1, hk⟩ := bind_ok hk
    obtain ⟨⟨b, s2⟩, h2, hk⟩ := bind_ok hk
    have := (Except.ok.inj hk).symm
    rw [branch_eq] at this
    refine .inr ⟨t.pc, s2.draws, ?_⟩
    rw [this, operand32_state h2, readReg_state h1]
  · exact .inl ⟨c, rfl⟩

/-! ## Loads and stores -/

theorem loadReg_next (hn : loadReg wd dst src off s = .next t) : WritesOnly s t dst 1 := by
  obtain hk | ⟨c, -, rfl⟩ := settle_next hn
  · obtain ⟨⟨a, s1⟩, h1, hk⟩ := bind_ok hk
    obtain ⟨⟨b, s2⟩, h2, hk⟩ := bind_ok hk
    obtain ⟨-, bs, hb, -⟩ := memRead_ok h2
    refine .inr ⟨b, s2.draws, ?_⟩
    rw [← Except.ok.inj hk, loadBytes_draws hb, readReg_state h1]
  · exact .inl ⟨c, rfl⟩

/-- What a store can do: its fault, or the bytes at its address and the program counter. -/
def StoresOnly (s t : State) (base : Reg) (off : Off) (wd : Width) : Prop :=
  (∃ c, t = s.raise c) ∨ ∃ (a v : Word) (s1 : State) (al : Bool) (k : Draws), s.readReg base = .ok (a, s1) ∧
    checkAccess s.platform .write al (effAddr a off) wd = .ok () ∧
    t = (State.storeValue { s with draws := k } (effAddr a off) wd v).advance 1

theorem storeImm_next (hn : storeImm wd base off imm s = .next t) : StoresOnly s t base off wd := by
  obtain hk | ⟨c, -, rfl⟩ := settle_next hn
  · obtain ⟨⟨a, s1⟩, h1, hk⟩ := bind_ok hk
    obtain ⟨s2, h2, hk⟩ := bind_ok hk
    have e1 := readReg_state h1
    obtain ⟨hc, e2⟩ := memWrite_ok h2
    rw [show s1.platform = s.platform by rw [e1]] at hc
    refine .inr ⟨a, immWord imm, s1, _, s1.draws, h1, hc, ?_⟩
    rw [← Except.ok.inj hk]
    rw [e2]
    conv_lhs => rw [e1]
  · exact .inl ⟨c, rfl⟩

theorem storeReg_next (hn : storeReg wd base src off s = .next t) : StoresOnly s t base off wd := by
  obtain hk | ⟨c, -, rfl⟩ := settle_next hn
  · obtain ⟨⟨a, s1⟩, h1, hk⟩ := bind_ok hk
    obtain ⟨⟨v, s2⟩, h2, hk⟩ := bind_ok hk
    obtain ⟨s3, h3, hk⟩ := bind_ok hk
    have e1 := readReg_state h1
    have e2 : s2 = { s with draws := s2.draws } := by
      conv_lhs => rw [readReg_state h2, e1]
    obtain ⟨hc, e3⟩ := memWrite_ok h3
    rw [show s2.platform = s.platform by rw [e2]] at hc
    refine .inr ⟨a, v, s1, _, s2.draws, h1, hc, ?_⟩
    rw [← Except.ok.inj hk]
    rw [e3]
    conv_lhs => rw [e2]
  · exact .inl ⟨c, rfl⟩

/-! ## Atomic operations -/

/-- What an atomic operation that writes no register can do. -/
theorem atomicUpdate_next {f : Word → Word → Word} (hn : atomicUpdate wd f base src off s = .next t) :
    StoresOnly s t base off wd := by
  obtain hk | ⟨c, -, rfl⟩ := settle_next hn
  · obtain ⟨⟨a, s1⟩, h1, hk⟩ := bind_ok hk
    obtain ⟨⟨v, s2⟩, h2, hk⟩ := bind_ok hk
    obtain ⟨⟨old, s3⟩, h3, hk⟩ := bind_ok hk
    have e2 : s2 = { s with draws := s2.draws } := by
      conv_lhs => rw [readReg_state h2, readReg_state h1]
    obtain ⟨-, hc, bs, -, -, ⟨w, -, e3⟩ | ⟨hno, -⟩⟩ := atomically_ok h3
    · rw [show s2.platform = s.platform by rw [e2]] at hc
      refine .inr ⟨a, w, s1, _, (s2.noteLoad (effAddr a off).toNat bs).draws, h1, hc, ?_⟩
      rw [← Except.ok.inj hk]
      rw [e3, noteLoad_of _ _ _ e2]
    · cases hno
  · exact .inl ⟨c, rfl⟩

/-- What an atomic operation that gives a register the old value can do: its fault, or that register, the program
counter, and the bytes at its address unless a comparison failed. -/
def ExchangesOnly (s t : State) (base : Reg) (off : Off) (wd : Width) (d : Dst) : Prop :=
  (∃ c, t = s.raise c) ∨ ∃ (a old : Word) (s1 : State) (k : Draws), s.readReg base = .ok (a, s1) ∧
    checkAccess s.platform .write true (effAddr a off) wd = .ok () ∧
    ((∃ v, t = ((State.storeValue { s with draws := k } (effAddr a off) wd v).writeReg d old).advance 1) ∨
      t = (State.writeReg { s with draws := k } d old).advance 1)

theorem atomicFetch_next {f : Word → Word → Word} (hn : atomicFetch wd f base dst off s = .next t) :
    ExchangesOnly s t base off wd dst := by
  obtain hk | ⟨c, -, rfl⟩ := settle_next hn
  · obtain ⟨⟨a, s1⟩, h1, hk⟩ := bind_ok hk
    obtain ⟨⟨v, s2⟩, h2, hk⟩ := bind_ok hk
    obtain ⟨⟨old, s3⟩, h3, hk⟩ := bind_ok hk
    have e2 : s2 = { s with draws := s2.draws } := by
      conv_lhs => rw [readReg_state h2, readReg_state h1]
    obtain ⟨-, hc, bs, -, -, ⟨w, -, e3⟩ | ⟨hno, -⟩⟩ := atomically_ok h3
    · rw [show s2.platform = s.platform by rw [e2]] at hc
      refine .inr ⟨a, old, s1, (s2.noteLoad (effAddr a off).toNat bs).draws, h1, hc, .inl ⟨w, ?_⟩⟩
      rw [← Except.ok.inj hk]
      rw [e3, noteLoad_of _ _ _ e2]
    · cases hno
  · exact .inl ⟨c, rfl⟩

theorem atomicCompare_next {view : Word → Word} (hn : atomicCompare wd view base src off s = .next t) :
    ExchangesOnly s t base off wd 0 := by
  obtain hk | ⟨c, -, rfl⟩ := settle_next hn
  · obtain ⟨⟨a, s1⟩, h1, hk⟩ := bind_ok hk
    obtain ⟨⟨e, s2⟩, h2, hk⟩ := bind_ok hk
    obtain ⟨⟨v, s3⟩, h3, hk⟩ := bind_ok hk
    obtain ⟨⟨old, s4⟩, h4, hk⟩ := bind_ok hk
    have e3 : s3 = { s with draws := s3.draws } := by
      conv_lhs => rw [readReg_state h3, readReg_state h2, readReg_state h1]
    obtain ⟨-, hc, bs, -, -, h5⟩ := atomically_ok h4
    rw [show s3.platform = s.platform by rw [e3]] at hc
    refine .inr ⟨a, old, s1, (s3.noteLoad (effAddr a off).toNat bs).draws, h1, hc, ?_⟩
    rw [← Except.ok.inj hk]
    obtain ⟨w, -, e4⟩ | ⟨-, e4⟩ := h5
    · refine .inl ⟨w, ?_⟩
      rw [e4, noteLoad_of _ _ _ e3]
    · refine .inr ?_
      rw [e4, noteLoad_of _ _ _ e3]
  · exact .inl ⟨c, rfl⟩

/-! ## Calls -/

/-- What a local call can do. -/
theorem enterLocal_ok {disp : Int} (hn : s.enterLocal disp = .ok t) :
    s.frames.length < s.platform.maxCallDepth ∧
      t.frames = { retPc := s.pc + 1, r6 := s.reg 6, r7 := s.reg 7, r8 := s.reg 8, r9 := s.reg 9, r10 := s.r10 } ::
        s.frames ∧
      t.r10 = frameTop s.platform (s.frames.length + 1) ∧
      t.mem = s.mem.forgetFrame s.platform (s.frames.length + 1) ∧
      t.regs = ((((s.regs.set 0 .unspecified).set 6 .unspecified).set 7 .unspecified).set 8 .unspecified).set 9
        .unspecified ∧
      t.pc = s.pc + 1 + disp ∧ t.status = s.status ∧ t.program = s.program ∧ t.platform = s.platform ∧
      t.draws = s.draws := by
  unfold State.enterLocal at hn
  simp only at hn
  split at hn
  · cases hn
  · next hd =>
    obtain rfl := Except.ok.inj hn
    exact ⟨by omega, rfl, rfl, rfl, rfl, rfl, rfl, rfl, rfl, rfl⟩

/-- What a helper call can do: a fault, or its return. -/
theorem callHelper_next {kind : HelperKind} {id : BitVec 32} (hn : callHelper kind id s = .next t) :
    (∃ c, t = s.raise c) ∨
      ∃ (k : Draws) (r0 : Word) (ws : List (Word × Byte)), t = State.afterHelper { s with draws := k } r0 ws := by
  unfold callHelper at hn
  split at hn
  · exact .inl ⟨_, by simpa using hn.symm⟩
  · next hp _ =>
    split at hn
    · exact .inl ⟨_, by simpa using hn.symm⟩
    · next args s1 hr =>
      have e := readRegs_state hr
      split at hn
      · next r0 ws _ =>
        refine .inr ⟨s1.draws, r0, ws, ?_⟩
        have := (Host.Outcome.next.inj hn).symm
        rw [this]
        conv_lhs => rw [e]
      · exact .inl ⟨_, by simpa using hn.symm⟩
      · cases hn

end Sys2Proof.Machine
end

