-- ==== Sys2Proof/Laws/Exec.lean ====
section
/-! SUPPORT. What any instruction can do when it answers a next state, said once: the case analysis behind every
statement over all instructions. -/

namespace Sys2Proof.Machine

/-- The ways an instruction can change the state, with what spec/10_state.md R24 says of it. -/
inductive Effect (i : Instr) (s t : State) : Prop where
  /-- A fault is taken. -/
  | faults (c : Cause) (h : t = s.raise c)
  /-- One register and the program counter. -/
  | writes (d : Dst) (n : Int) (v : Word) (k : Draws) (hw : registersWritten i = [d])
      (h : t = (State.writeReg { s with draws := k } d v).advance n)
  /-- The program counter alone: a jump. -/
  | moves (p : Int) (k : Draws) (h : t = { s with pc := p, draws := k })
  /-- The bytes at one address. -/
  | stores (b : Reg) (off : Off) (wd : Width) (a v : Word) (s1 : State) (al : Bool) (k : Draws)
      (ht : storeTarget i = some (b, off, wd)) (hb : s.readReg b = .ok (a, s1))
      (hc : checkAccess s.platform .write al (effAddr a off) wd = .ok ())
      (h : t = (State.storeValue { s with draws := k } (effAddr a off) wd v).advance 1)
  /-- The bytes at one address and one register: an atomic operation that gives the old value. -/
  | exchanges (b : Reg) (off : Off) (wd : Width) (a v old : Word) (s1 : State) (d : Dst) (k : Draws)
      (ht : storeTarget i = some (b, off, wd)) (hw : registersWritten i = [d]) (hb : s.readReg b = .ok (a, s1))
      (hc : checkAccess s.platform .write true (effAddr a off) wd = .ok ())
      (h : t = ((State.storeValue { s with draws := k } (effAddr a off) wd v).writeReg d old).advance 1)
  /-- One register: a compare and exchange that did not match. -/
  | compares (d : Dst) (old : Word) (k : Draws) (hw : registersWritten i = [d])
      (h : t = (State.writeReg { s with draws := k } d old).advance 1)
  /-- A helper returned. -/
  | helper (k : Draws) (r0 : Word) (ws : List (Word × Byte)) (hi : (∃ id, i = .callHelper id) ∨ ∃ id, i = .callBtf id)
      (h : t = State.afterHelper { s with draws := k } r0 ws)
  /-- A program-local function was entered. -/
  | enters (disp : BitVec 32) (hi : i = .callLocal disp) (h : s.enterLocal disp.toInt = .ok t)
  /-- A program-local function returned. -/
  | leaves (f : Frame) (rest : List Frame) (hi : i = .exit) (hf : s.frames = f :: rest) (h : t = s.leaveLocal f rest)
  /-- The run ended. -/
  | ends (v : Word) (s1 : State) (hi : i = .exit) (hf : s.frames = []) (hr : s.readReg 0 = .ok (v, s1))
      (h : t = { s1 with status := .exited v })

section

variable {i : Instr} {s t : State}

theorem Effect.ofWrites {d : Dst} {n : Int} (hw : registersWritten i = [d]) (h : WritesOnly s t d n) : Effect i s t := by
  obtain ⟨c, h⟩ | ⟨v, k, h⟩ := h
  · exact .faults c h
  · exact .writes d n v k hw h

theorem Effect.ofMoves (h : MovesOnly s t) : Effect i s t := by
  obtain ⟨c, h⟩ | ⟨p, k, h⟩ := h
  · exact .faults c h
  · exact .moves p k h

theorem Effect.ofStores {b : Reg} {off : Off} {wd : Width} (ht : storeTarget i = some (b, off, wd))
    (h : StoresOnly s t b off wd) : Effect i s t := by
  obtain ⟨c, h⟩ | ⟨a, v, s1, al, k, hb, hc, h⟩ := h
  · exact .faults c h
  · exact .stores b off wd a v s1 al k ht hb hc h

theorem Effect.ofExchanges {b : Reg} {off : Off} {wd : Width} {d : Dst} (ht : storeTarget i = some (b, off, wd))
    (hw : registersWritten i = [d]) (h : ExchangesOnly s t b off wd d) : Effect i s t := by
  obtain ⟨c, h⟩ | ⟨a, old, s1, k, hb, hc, ⟨v, h⟩ | h⟩ := h
  · exact .faults c h
  · exact .exchanges b off wd a v old s1 d k ht hw hb hc h
  · exact .compares d old k hw h

theorem exec_next_add32K {dst : Dst} {imm : Imm} (h : exec (.add32K dst imm) s = .next t) :
    Effect (.add32K dst imm) s t :=
  .ofWrites rfl (alu32_next h)

theorem exec_next_add32X {dst : Dst} {src : Reg} (h : exec (.add32X dst src) s = .next t) :
    Effect (.add32X dst src) s t :=
  .ofWrites rfl (alu32_next h)

theorem exec_next_add64K {dst : Dst} {imm : Imm} (h : exec (.add64K dst imm) s = .next t) :
    Effect (.add64K dst imm) s t :=
  .ofWrites rfl (alu64_next h)

theorem exec_next_add64X {dst : Dst} {src : Reg} (h : exec (.add64X dst src) s = .next t) :
    Effect (.add64X dst src) s t :=
  .ofWrites rfl (alu64_next h)

theorem exec_next_sub32K {dst : Dst} {imm : Imm} (h : exec (.sub32K dst imm) s = .next t) :
    Effect (.sub32K dst imm) s t :=
  .ofWrites rfl (alu32_next h)

theorem exec_next_sub32X {dst : Dst} {src : Reg} (h : exec (.sub32X dst src) s = .next t) :
    Effect (.sub32X dst src) s t :=
  .ofWrites rfl (alu32_next h)

theorem exec_next_sub64K {dst : Dst} {imm : Imm} (h : exec (.sub64K dst imm) s = .next t) :
    Effect (.sub64K dst imm) s t :=
  .ofWrites rfl (alu64_next h)

theorem exec_next_sub64X {dst : Dst} {src : Reg} (h : exec (.sub64X dst src) s = .next t) :
    Effect (.sub64X dst src) s t :=
  .ofWrites rfl (alu64_next h)

theorem exec_next_mul32K {dst : Dst} {imm : Imm} (h : exec (.mul32K dst imm) s = .next t) :
    Effect (.mul32K dst imm) s t :=
  .ofWrites rfl (alu32_next h)

theorem exec_next_mul32X {dst : Dst} {src : Reg} (h : exec (.mul32X dst src) s = .next t) :
    Effect (.mul32X dst src) s t :=
  .ofWrites rfl (alu32_next h)

theorem exec_next_mul64K {dst : Dst} {imm : Imm} (h : exec (.mul64K dst imm) s = .next t) :
    Effect (.mul64K dst imm) s t :=
  .ofWrites rfl (alu64_next h)

theorem exec_next_mul64X {dst : Dst} {src : Reg} (h : exec (.mul64X dst src) s = .next t) :
    Effect (.mul64X dst src) s t :=
  .ofWrites rfl (alu64_next h)

theorem exec_next_div32K {dst : Dst} {imm : Imm} (h : exec (.div32K dst imm) s = .next t) :
    Effect (.div32K dst imm) s t :=
  .ofWrites rfl (divide32_next h)

theorem exec_next_div32X {dst : Dst} {src : Reg} (h : exec (.div32X dst src) s = .next t) :
    Effect (.div32X dst src) s t :=
  .ofWrites rfl (divide32_next h)

theorem exec_next_div64K {dst : Dst} {imm : Imm} (h : exec (.div64K dst imm) s = .next t) :
    Effect (.div64K dst imm) s t :=
  .ofWrites rfl (divide64_next h)

theorem exec_next_div64X {dst : Dst} {src : Reg} (h : exec (.div64X dst src) s = .next t) :
    Effect (.div64X dst src) s t :=
  .ofWrites rfl (divide64_next h)

theorem exec_next_or32K {dst : Dst} {imm : Imm} (h : exec (.or32K dst imm) s = .next t) :
    Effect (.or32K dst imm) s t :=
  .ofWrites rfl (alu32_next h)

theorem exec_next_or32X {dst : Dst} {src : Reg} (h : exec (.or32X dst src) s = .next t) :
    Effect (.or32X dst src) s t :=
  .ofWrites rfl (alu32_next h)

theorem exec_next_or64K {dst : Dst} {imm : Imm} (h : exec (.or64K dst imm) s = .next t) :
    Effect (.or64K dst imm) s t :=
  .ofWrites rfl (alu64_next h)

theorem exec_next_or64X {dst : Dst} {src : Reg} (h : exec (.or64X dst src) s = .next t) :
    Effect (.or64X dst src) s t :=
  .ofWrites rfl (alu64_next h)

theorem exec_next_and32K {dst : Dst} {imm : Imm} (h : exec (.and32K dst imm) s = .next t) :
    Effect (.and32K dst imm) s t :=
  .ofWrites rfl (alu32_next h)

theorem exec_next_and32X {dst : Dst} {src : Reg} (h : exec (.and32X dst src) s = .next t) :
    Effect (.and32X dst src) s t :=
  .ofWrites rfl (alu32_next h)

theorem exec_next_and64K {dst : Dst} {imm : Imm} (h : exec (.and64K dst imm) s = .next t) :
    Effect (.and64K dst imm) s t :=
  .ofWrites rfl (alu64_next h)

theorem exec_next_and64X {dst : Dst} {src : Reg} (h : exec (.and64X dst src) s = .next t) :
    Effect (.and64X dst src) s t :=
  .ofWrites rfl (alu64_next h)

theorem exec_next_lsh32K {dst : Dst} {imm : Imm} (h : exec (.lsh32K dst imm) s = .next t) :
    Effect (.lsh32K dst imm) s t :=
  .ofWrites rfl (alu32_next h)

theorem exec_next_lsh32X {dst : Dst} {src : Reg} (h : exec (.lsh32X dst src) s = .next t) :
    Effect (.lsh32X dst src) s t :=
  .ofWrites rfl (alu32_next h)

theorem exec_next_lsh64K {dst : Dst} {imm : Imm} (h : exec (.lsh64K dst imm) s = .next t) :
    Effect (.lsh64K dst imm) s t :=
  .ofWrites rfl (alu64_next h)

theorem exec_next_lsh64X {dst : Dst} {src : Reg} (h : exec (.lsh64X dst src) s = .next t) :
    Effect (.lsh64X dst src) s t :=
  .ofWrites rfl (alu64_next h)

theorem exec_next_rsh32K {dst : Dst} {imm : Imm} (h : exec (.rsh32K dst imm) s = .next t) :
    Effect (.rsh32K dst imm) s t :=
  .ofWrites rfl (alu32_next h)

theorem exec_next_rsh32X {dst : Dst} {src : Reg} (h : exec (.rsh32X dst src) s = .next t) :
    Effect (.rsh32X dst src) s t :=
  .ofWrites rfl (alu32_next h)

theorem exec_next_rsh64K {dst : Dst} {imm : Imm} (h : exec (.rsh64K dst imm) s = .next t) :
    Effect (.rsh64K dst imm) s t :=
  .ofWrites rfl (alu64_next h)

theorem exec_next_rsh64X {dst : Dst} {src : Reg} (h : exec (.rsh64X dst src) s = .next t) :
    Effect (.rsh64X dst src) s t :=
  .ofWrites rfl (alu64_next h)

theorem exec_next_neg32K {dst : Dst} {imm : Imm} (h : exec (.neg32K dst imm) s = .next t) :
    Effect (.neg32K dst imm) s t :=
  .ofWrites rfl (set32_next (f := fun b => 0 - b) h)

theorem exec_next_neg32X {dst : Dst} {src : Reg} (h : exec (.neg32X dst src) s = .next t) :
    Effect (.neg32X dst src) s t :=
  .ofWrites rfl (set32_next (f := fun b => 0 - b) h)

theorem exec_next_neg64K {dst : Dst} {imm : Imm} (h : exec (.neg64K dst imm) s = .next t) :
    Effect (.neg64K dst imm) s t :=
  .ofWrites rfl (set64_next (f := fun b => 0 - b) h)

theorem exec_next_neg64X {dst : Dst} {src : Reg} (h : exec (.neg64X dst src) s = .next t) :
    Effect (.neg64X dst src) s t :=
  .ofWrites rfl (set64_next (f := fun b => 0 - b) h)

theorem exec_next_mod32K {dst : Dst} {imm : Imm} (h : exec (.mod32K dst imm) s = .next t) :
    Effect (.mod32K dst imm) s t :=
  .ofWrites rfl (divide32_next h)

theorem exec_next_mod32X {dst : Dst} {src : Reg} (h : exec (.mod32X dst src) s = .next t) :
    Effect (.mod32X dst src) s t :=
  .ofWrites rfl (divide32_next h)

theorem exec_next_mod64K {dst : Dst} {imm : Imm} (h : exec (.mod64K dst imm) s = .next t) :
    Effect (.mod64K dst imm) s t :=
  .ofWrites rfl (divide64_next h)

theorem exec_next_mod64X {dst : Dst} {src : Reg} (h : exec (.mod64X dst src) s = .next t) :
    Effect (.mod64X dst src) s t :=
  .ofWrites rfl (divide64_next h)

theorem exec_next_xor32K {dst : Dst} {imm : Imm} (h : exec (.xor32K dst imm) s = .next t) :
    Effect (.xor32K dst imm) s t :=
  .ofWrites rfl (alu32_next h)

theorem exec_next_xor32X {dst : Dst} {src : Reg} (h : exec (.xor32X dst src) s = .next t) :
    Effect (.xor32X dst src) s t :=
  .ofWrites rfl (alu32_next h)

theorem exec_next_xor64K {dst : Dst} {imm : Imm} (h : exec (.xor64K dst imm) s = .next t) :
    Effect (.xor64K dst imm) s t :=
  .ofWrites rfl (alu64_next h)

theorem exec_next_xor64X {dst : Dst} {src : Reg} (h : exec (.xor64X dst src) s = .next t) :
    Effect (.xor64X dst src) s t :=
  .ofWrites rfl (alu64_next h)

theorem exec_next_mov32K {dst : Dst} {imm : Imm} (h : exec (.mov32K dst imm) s = .next t) :
    Effect (.mov32K dst imm) s t :=
  .ofWrites rfl (set32_next (f := id) (o := .imm imm) h)

theorem exec_next_mov32X {dst : Dst} {src : Reg} (h : exec (.mov32X dst src) s = .next t) :
    Effect (.mov32X dst src) s t :=
  .ofWrites rfl (set32_next (f := id) (o := .reg src) h)

theorem exec_next_mov64K {dst : Dst} {imm : Imm} (h : exec (.mov64K dst imm) s = .next t) :
    Effect (.mov64K dst imm) s t :=
  .ofWrites rfl (set64_next (f := id) (o := .imm imm) h)

theorem exec_next_mov64X {dst : Dst} {src : Reg} (h : exec (.mov64X dst src) s = .next t) :
    Effect (.mov64X dst src) s t :=
  .ofWrites rfl (set64_next (f := id) (o := .reg src) h)

theorem exec_next_arsh32K {dst : Dst} {imm : Imm} (h : exec (.arsh32K dst imm) s = .next t) :
    Effect (.arsh32K dst imm) s t :=
  .ofWrites rfl (alu32_next h)

theorem exec_next_arsh32X {dst : Dst} {src : Reg} (h : exec (.arsh32X dst src) s = .next t) :
    Effect (.arsh32X dst src) s t :=
  .ofWrites rfl (alu32_next h)

theorem exec_next_arsh64K {dst : Dst} {imm : Imm} (h : exec (.arsh64K dst imm) s = .next t) :
    Effect (.arsh64K dst imm) s t :=
  .ofWrites rfl (alu64_next h)

theorem exec_next_arsh64X {dst : Dst} {src : Reg} (h : exec (.arsh64X dst src) s = .next t) :
    Effect (.arsh64X dst src) s t :=
  .ofWrites rfl (alu64_next h)

theorem exec_next_le16 {dst : Dst} (h : exec (.le16 dst) s = .next t) :
    Effect (.le16 dst) s t :=
  .ofWrites rfl (swapReg_next h)

theorem exec_next_le32 {dst : Dst} (h : exec (.le32 dst) s = .next t) :
    Effect (.le32 dst) s t :=
  .ofWrites rfl (swapReg_next h)

theorem exec_next_le64 {dst : Dst} (h : exec (.le64 dst) s = .next t) :
    Effect (.le64 dst) s t :=
  .ofWrites rfl (swapReg_next h)

theorem exec_next_be16 {dst : Dst} (h : exec (.be16 dst) s = .next t) :
    Effect (.be16 dst) s t :=
  .ofWrites rfl (swapReg_next h)

theorem exec_next_be32 {dst : Dst} (h : exec (.be32 dst) s = .next t) :
    Effect (.be32 dst) s t :=
  .ofWrites rfl (swapReg_next h)

theorem exec_next_be64 {dst : Dst} (h : exec (.be64 dst) s = .next t) :
    Effect (.be64 dst) s t :=
  .ofWrites rfl (swapReg_next h)

theorem exec_next_jeq64K {dst : Reg} {imm : Imm} {off : Off} (h : exec (.jeq64K dst imm off) s = .next t) :
    Effect (.jeq64K dst imm off) s t :=
  .ofMoves (condJump64_next h)

theorem exec_next_jeq64X {dst : Reg} {src : Reg} {off : Off} (h : exec (.jeq64X dst src off) s = .next t) :
    Effect (.jeq64X dst src off) s t :=
  .ofMoves (condJump64_next h)

theorem exec_next_jeq32K {dst : Reg} {imm : Imm} {off : Off} (h : exec (.jeq32K dst imm off) s = .next t) :
    Effect (.jeq32K dst imm off) s t :=
  .ofMoves (condJump32_next h)

theorem exec_next_jeq32X {dst : Reg} {src : Reg} {off : Off} (h : exec (.jeq32X dst src off) s = .next t) :
    Effect (.jeq32X dst src off) s t :=
  .ofMoves (condJump32_next h)

theorem exec_next_jgt64K {dst : Reg} {imm : Imm} {off : Off} (h : exec (.jgt64K dst imm off) s = .next t) :
    Effect (.jgt64K dst imm off) s t :=
  .ofMoves (condJump64_next h)

theorem exec_next_jgt64X {dst : Reg} {src : Reg} {off : Off} (h : exec (.jgt64X dst src off) s = .next t) :
    Effect (.jgt64X dst src off) s t :=
  .ofMoves (condJump64_next h)

theorem exec_next_jgt32K {dst : Reg} {imm : Imm} {off : Off} (h : exec (.jgt32K dst imm off) s = .next t) :
    Effect (.jgt32K dst imm off) s t :=
  .ofMoves (condJump32_next h)

theorem exec_next_jgt32X {dst : Reg} {src : Reg} {off : Off} (h : exec (.jgt32X dst src off) s = .next t) :
    Effect (.jgt32X dst src off) s t :=
  .ofMoves (condJump32_next h)

theorem exec_next_jge64K {dst : Reg} {imm : Imm} {off : Off} (h : exec (.jge64K dst imm off) s = .next t) :
    Effect (.jge64K dst imm off) s t :=
  .ofMoves (condJump64_next h)

theorem exec_next_jge64X {dst : Reg} {src : Reg} {off : Off} (h : exec (.jge64X dst src off) s = .next t) :
    Effect (.jge64X dst src off) s t :=
  .ofMoves (condJump64_next h)

theorem exec_next_jge32K {dst : Reg} {imm : Imm} {off : Off} (h : exec (.jge32K dst imm off) s = .next t) :
    Effect (.jge32K dst imm off) s t :=
  .ofMoves (condJump32_next h)

theorem exec_next_jge32X {dst : Reg} {src : Reg} {off : Off} (h : exec (.jge32X dst src off) s = .next t) :
    Effect (.jge32X dst src off) s t :=
  .ofMoves (condJump32_next h)

theorem exec_next_jset64K {dst : Reg} {imm : Imm} {off : Off} (h : exec (.jset64K dst imm off) s = .next t) :
    Effect (.jset64K dst imm off) s t :=
  .ofMoves (condJump64_next h)

theorem exec_next_jset64X {dst : Reg} {src : Reg} {off : Off} (h : exec (.jset64X dst src off) s = .next t) :
    Effect (.jset64X dst src off) s t :=
  .ofMoves (condJump64_next h)

theorem exec_next_jset32K {dst : Reg} {imm : Imm} {off : Off} (h : exec (.jset32K dst imm off) s = .next t) :
    Effect (.jset32K dst imm off) s t :=
  .ofMoves (condJump32_next h)

theorem exec_next_jset32X {dst : Reg} {src : Reg} {off : Off} (h : exec (.jset32X dst src off) s = .next t) :
    Effect (.jset32X dst src off) s t :=
  .ofMoves (condJump32_next h)

theorem exec_next_jne64K {dst : Reg} {imm : Imm} {off : Off} (h : exec (.jne64K dst imm off) s = .next t) :
    Effect (.jne64K dst imm off) s t :=
  .ofMoves (condJump64_next h)

theorem exec_next_jne64X {dst : Reg} {src : Reg} {off : Off} (h : exec (.jne64X dst src off) s = .next t) :
    Effect (.jne64X dst src off) s t :=
  .ofMoves (condJump64_next h)

theorem exec_next_jne32K {dst : Reg} {imm : Imm} {off : Off} (h : exec (.jne32K dst imm off) s = .next t) :
    Effect (.jne32K dst imm off) s t :=
  .ofMoves (condJump32_next h)

theorem exec_next_jne32X {dst : Reg} {src : Reg} {off : Off} (h : exec (.jne32X dst src off) s = .next t) :
    Effect (.jne32X dst src off) s t :=
  .ofMoves (condJump32_next h)

theorem exec_next_jsgt64K {dst : Reg} {imm : Imm} {off : Off} (h : exec (.jsgt64K dst imm off) s = .next t) :
    Effect (.jsgt64K dst imm off) s t :=
  .ofMoves (condJump64_next h)

theorem exec_next_jsgt64X {dst : Reg} {src : Reg} {off : Off} (h : exec (.jsgt64X dst src off) s = .next t) :
    Effect (.jsgt64X dst src off) s t :=
  .ofMoves (condJump64_next h)

theorem exec_next_jsgt32K {dst : Reg} {imm : Imm} {off : Off} (h : exec (.jsgt32K dst imm off) s = .next t) :
    Effect (.jsgt32K dst imm off) s t :=
  .ofMoves (condJump32_next h)

theorem exec_next_jsgt32X {dst : Reg} {src : Reg} {off : Off} (h : exec (.jsgt32X dst src off) s = .next t) :
    Effect (.jsgt32X dst src off) s t :=
  .ofMoves (condJump32_next h)

theorem exec_next_jsge64K {dst : Reg} {imm : Imm} {off : Off} (h : exec (.jsge64K dst imm off) s = .next t) :
    Effect (.jsge64K dst imm off) s t :=
  .ofMoves (condJump64_next h)

theorem exec_next_jsge64X {dst : Reg} {src : Reg} {off : Off} (h : exec (.jsge64X dst src off) s = .next t) :
    Effect (.jsge64X dst src off) s t :=
  .ofMoves (condJump64_next h)

theorem exec_next_jsge32K {dst : Reg} {imm : Imm} {off : Off} (h : exec (.jsge32K dst imm off) s = .next t) :
    Effect (.jsge32K dst imm off) s t :=
  .ofMoves (condJump32_next h)

theorem exec_next_jsge32X {dst : Reg} {src : Reg} {off : Off} (h : exec (.jsge32X dst src off) s = .next t) :
    Effect (.jsge32X dst src off) s t :=
  .ofMoves (condJump32_next h)

theorem exec_next_jlt64K {dst : Reg} {imm : Imm} {off : Off} (h : exec (.jlt64K dst imm off) s = .next t) :
    Effect (.jlt64K dst imm off) s t :=
  .ofMoves (condJump64_next h)

theorem exec_next_jlt64X {dst : Reg} {src : Reg} {off : Off} (h : exec (.jlt64X dst src off) s = .next t) :
    Effect (.jlt64X dst src off) s t :=
  .ofMoves (condJump64_next h)

theorem exec_next_jlt32K {dst : Reg} {imm : Imm} {off : Off} (h : exec (.jlt32K dst imm off) s = .next t) :
    Effect (.jlt32K dst imm off) s t :=
  .ofMoves (condJump32_next h)

theorem exec_next_jlt32X {dst : Reg} {src : Reg} {off : Off} (h : exec (.jlt32X dst src off) s = .next t) :
    Effect (.jlt32X dst src off) s t :=
  .ofMoves (condJump32_next h)

theorem exec_next_jle64K {dst : Reg} {imm : Imm} {off : Off} (h : exec (.jle64K dst imm off) s = .next t) :
    Effect (.jle64K dst imm off) s t :=
  .ofMoves (condJump64_next h)

theorem exec_next_jle64X {dst : Reg} {src : Reg} {off : Off} (h : exec (.jle64X dst src off) s = .next t) :
    Effect (.jle64X dst src off) s t :=
  .ofMoves (condJump64_next h)

theorem exec_next_jle32K {dst : Reg} {imm : Imm} {off : Off} (h : exec (.jle32K dst imm off) s = .next t) :
    Effect (.jle32K dst imm off) s t :=
  .ofMoves (condJump32_next h)

theorem exec_next_jle32X {dst : Reg} {src : Reg} {off : Off} (h : exec (.jle32X dst src off) s = .next t) :
    Effect (.jle32X dst src off) s t :=
  .ofMoves (condJump32_next h)

theorem exec_next_jslt64K {dst : Reg} {imm : Imm} {off : Off} (h : exec (.jslt64K dst imm off) s = .next t) :
    Effect (.jslt64K dst imm off) s t :=
  .ofMoves (condJump64_next h)

theorem exec_next_jslt64X {dst : Reg} {src : Reg} {off : Off} (h : exec (.jslt64X dst src off) s = .next t) :
    Effect (.jslt64X dst src off) s t :=
  .ofMoves (condJump64_next h)

theorem exec_next_jslt32K {dst : Reg} {imm : Imm} {off : Off} (h : exec (.jslt32K dst imm off) s = .next t) :
    Effect (.jslt32K dst imm off) s t :=
  .ofMoves (condJump32_next h)

theorem exec_next_jslt32X {dst : Reg} {src : Reg} {off : Off} (h : exec (.jslt32X dst src off) s = .next t) :
    Effect (.jslt32X dst src off) s t :=
  .ofMoves (condJump32_next h)

theorem exec_next_jsle64K {dst : Reg} {imm : Imm} {off : Off} (h : exec (.jsle64K dst imm off) s = .next t) :
    Effect (.jsle64K dst imm off) s t :=
  .ofMoves (condJump64_next h)

theorem exec_next_jsle64X {dst : Reg} {src : Reg} {off : Off} (h : exec (.jsle64X dst src off) s = .next t) :
    Effect (.jsle64X dst src off) s t :=
  .ofMoves (condJump64_next h)

theorem exec_next_jsle32K {dst : Reg} {imm : Imm} {off : Off} (h : exec (.jsle32K dst imm off) s = .next t) :
    Effect (.jsle32K dst imm off) s t :=
  .ofMoves (condJump32_next h)

theorem exec_next_jsle32X {dst : Reg} {src : Reg} {off : Off} (h : exec (.jsle32X dst src off) s = .next t) :
    Effect (.jsle32X dst src off) s t :=
  .ofMoves (condJump32_next h)

theorem exec_next_ja {off : Off} (h : exec (.ja off) s = .next t) :
    Effect (.ja off) s t :=
  .moves _ s.draws (Host.Outcome.next.inj h).symm

theorem exec_next_callHelper {imm : Imm} (h : exec (.callHelper imm) s = .next t) :
    Effect (.callHelper imm) s t := by
  obtain ⟨c, h⟩ | ⟨k, r0, ws, h⟩ := callHelper_next h
  · exact .faults c h
  · exact .helper k r0 ws (.inl ⟨imm, rfl⟩) h

theorem exec_next_callLocal {disp : BitVec 32} (h : exec (.callLocal disp) s = .next t) :
    Effect (.callLocal disp) s t := by
  obtain hk | ⟨c, -, h⟩ := settle_next h
  · exact .enters disp rfl hk
  · exact .faults c h

theorem exec_next_callBtf {imm : Imm} (h : exec (.callBtf imm) s = .next t) :
    Effect (.callBtf imm) s t := by
  obtain ⟨c, h⟩ | ⟨k, r0, ws, h⟩ := callHelper_next h
  · exact .faults c h
  · exact .helper k r0 ws (.inr ⟨imm, rfl⟩) h

theorem exec_next_exit (h : exec .exit s = .next t) :
    Effect .exit s t := by
  simp only [exec, execExit] at h
  split at h
  · next hf =>
    obtain hk | ⟨c, -, h⟩ := settle_next h
    · cases hr : s.readReg 0 with
      | error c => rw [hr] at hk; cases hk
      | ok p =>
        rw [hr] at hk
        exact .ends p.1 p.2 rfl hf hr (Except.ok.inj hk).symm
    · exact .faults c h
  · next f rest hf => exact .leaves f rest rfl hf (Host.Outcome.next.inj h).symm

theorem exec_next_ldxW {dst : Dst} {src : Reg} {off : Off} (h : exec (.ldxW dst src off) s = .next t) :
    Effect (.ldxW dst src off) s t :=
  .ofWrites rfl (loadReg_next h)

theorem exec_next_ldxH {dst : Dst} {src : Reg} {off : Off} (h : exec (.ldxH dst src off) s = .next t) :
    Effect (.ldxH dst src off) s t :=
  .ofWrites rfl (loadReg_next h)

theorem exec_next_ldxB {dst : Dst} {src : Reg} {off : Off} (h : exec (.ldxB dst src off) s = .next t) :
    Effect (.ldxB dst src off) s t :=
  .ofWrites rfl (loadReg_next h)

theorem exec_next_ldxDw {dst : Dst} {src : Reg} {off : Off} (h : exec (.ldxDw dst src off) s = .next t) :
    Effect (.ldxDw dst src off) s t :=
  .ofWrites rfl (loadReg_next h)

theorem exec_next_stW {dst : Reg} {off : Off} {imm : Imm} (h : exec (.stW dst off imm) s = .next t) :
    Effect (.stW dst off imm) s t :=
  .ofStores rfl (storeImm_next h)

theorem exec_next_stH {dst : Reg} {off : Off} {imm : Imm} (h : exec (.stH dst off imm) s = .next t) :
    Effect (.stH dst off imm) s t :=
  .ofStores rfl (storeImm_next h)

theorem exec_next_stB {dst : Reg} {off : Off} {imm : Imm} (h : exec (.stB dst off imm) s = .next t) :
    Effect (.stB dst off imm) s t :=
  .ofStores rfl (storeImm_next h)

theorem exec_next_stDw {dst : Reg} {off : Off} {imm : Imm} (h : exec (.stDw dst off imm) s = .next t) :
    Effect (.stDw dst off imm) s t :=
  .ofStores rfl (storeImm_next h)

theorem exec_next_stxW {dst : Reg} {src : Reg} {off : Off} (h : exec (.stxW dst src off) s = .next t) :
    Effect (.stxW dst src off) s t :=
  .ofStores rfl (storeReg_next h)

theorem exec_next_stxH {dst : Reg} {src : Reg} {off : Off} (h : exec (.stxH dst src off) s = .next t) :
    Effect (.stxH dst src off) s t :=
  .ofStores rfl (storeReg_next h)

theorem exec_next_stxB {dst : Reg} {src : Reg} {off : Off} (h : exec (.stxB dst src off) s = .next t) :
    Effect (.stxB dst src off) s t :=
  .ofStores rfl (storeReg_next h)

theorem exec_next_stxDw {dst : Reg} {src : Reg} {off : Off} (h : exec (.stxDw dst src off) s = .next t) :
    Effect (.stxDw dst src off) s t :=
  .ofStores rfl (storeReg_next h)

theorem exec_next_atomicAddW {dst : Reg} {src : Reg} {off : Off} (h : exec (.atomicAddW dst src off) s = .next t) :
    Effect (.atomicAddW dst src off) s t :=
  .ofStores rfl (atomicUpdate_next h)

theorem exec_next_atomicOrW {dst : Reg} {src : Reg} {off : Off} (h : exec (.atomicOrW dst src off) s = .next t) :
    Effect (.atomicOrW dst src off) s t :=
  .ofStores rfl (atomicUpdate_next h)

theorem exec_next_atomicAndW {dst : Reg} {src : Reg} {off : Off} (h : exec (.atomicAndW dst src off) s = .next t) :
    Effect (.atomicAndW dst src off) s t :=
  .ofStores rfl (atomicUpdate_next h)

theorem exec_next_atomicXorW {dst : Reg} {src : Reg} {off : Off} (h : exec (.atomicXorW dst src off) s = .next t) :
    Effect (.atomicXorW dst src off) s t :=
  .ofStores rfl (atomicUpdate_next h)

theorem exec_next_atomicFetchAddW {dst : Reg} {src : Dst} {off : Off} (h : exec (.atomicFetchAddW dst src off) s = .next t) :
    Effect (.atomicFetchAddW dst src off) s t :=
  .ofExchanges rfl rfl (atomicFetch_next h)

theorem exec_next_atomicFetchOrW {dst : Reg} {src : Dst} {off : Off} (h : exec (.atomicFetchOrW dst src off) s = .next t) :
    Effect (.atomicFetchOrW dst src off) s t :=
  .ofExchanges rfl rfl (atomicFetch_next h)

theorem exec_next_atomicFetchAndW {dst : Reg} {src : Dst} {off : Off} (h : exec (.atomicFetchAndW dst src off) s = .next t) :
    Effect (.atomicFetchAndW dst src off) s t :=
  .ofExchanges rfl rfl (atomicFetch_next h)

theorem exec_next_atomicFetchXorW {dst : Reg} {src : Dst} {off : Off} (h : exec (.atomicFetchXorW dst src off) s = .next t) :
    Effect (.atomicFetchXorW dst src off) s t :=
  .ofExchanges rfl rfl (atomicFetch_next h)

theorem exec_next_atomicXchgW {dst : Reg} {src : Dst} {off : Off} (h : exec (.atomicXchgW dst src off) s = .next t) :
    Effect (.atomicXchgW dst src off) s t :=
  .ofExchanges rfl rfl (atomicFetch_next h)

theorem exec_next_atomicCmpxchgW {dst : Reg} {src : Reg} {off : Off} (h : exec (.atomicCmpxchgW dst src off) s = .next t) :
    Effect (.atomicCmpxchgW dst src off) s t :=
  .ofExchanges rfl rfl (atomicCompare_next h)

theorem exec_next_atomicAddDw {dst : Reg} {src : Reg} {off : Off} (h : exec (.atomicAddDw dst src off) s = .next t) :
    Effect (.atomicAddDw dst src off) s t :=
  .ofStores rfl (atomicUpdate_next h)

theorem exec_next_atomicOrDw {dst : Reg} {src : Reg} {off : Off} (h : exec (.atomicOrDw dst src off) s = .next t) :
    Effect (.atomicOrDw dst src off) s t :=
  .ofStores rfl (atomicUpdate_next h)

theorem exec_next_atomicAndDw {dst : Reg} {src : Reg} {off : Off} (h : exec (.atomicAndDw dst src off) s = .next t) :
    Effect (.atomicAndDw dst src off) s t :=
  .ofStores rfl (atomicUpdate_next h)

theorem exec_next_atomicXorDw {dst : Reg} {src : Reg} {off : Off} (h : exec (.atomicXorDw dst src off) s = .next t) :
    Effect (.atomicXorDw dst src off) s t :=
  .ofStores rfl (atomicUpdate_next h)

theorem exec_next_atomicFetchAddDw {dst : Reg} {src : Dst} {off : Off} (h : exec (.atomicFetchAddDw dst src off) s = .next t) :
    Effect (.atomicFetchAddDw dst src off) s t :=
  .ofExchanges rfl rfl (atomicFetch_next h)

theorem exec_next_atomicFetchOrDw {dst : Reg} {src : Dst} {off : Off} (h : exec (.atomicFetchOrDw dst src off) s = .next t) :
    Effect (.atomicFetchOrDw dst src off) s t :=
  .ofExchanges rfl rfl (atomicFetch_next h)

theorem exec_next_atomicFetchAndDw {dst : Reg} {src : Dst} {off : Off} (h : exec (.atomicFetchAndDw dst src off) s = .next t) :
    Effect (.atomicFetchAndDw dst src off) s t :=
  .ofExchanges rfl rfl (atomicFetch_next h)

theorem exec_next_atomicFetchXorDw {dst : Reg} {src : Dst} {off : Off} (h : exec (.atomicFetchXorDw dst src off) s = .next t) :
    Effect (.atomicFetchXorDw dst src off) s t :=
  .ofExchanges rfl rfl (atomicFetch_next h)

theorem exec_next_atomicXchgDw {dst : Reg} {src : Dst} {off : Off} (h : exec (.atomicXchgDw dst src off) s = .next t) :
    Effect (.atomicXchgDw dst src off) s t :=
  .ofExchanges rfl rfl (atomicFetch_next (wd := .dw) (f := fun _ v => v) (off := off) h)

theorem exec_next_atomicCmpxchgDw {dst : Reg} {src : Reg} {off : Off} (h : exec (.atomicCmpxchgDw dst src off) s = .next t) :
    Effect (.atomicCmpxchgDw dst src off) s t :=
  .ofExchanges rfl rfl (atomicCompare_next h)

theorem exec_next_ldImm64 {dst : Dst} {imm : Imm} {nextImm : Imm} (h : exec (.ldImm64 dst imm nextImm) s = .next t) :
    Effect (.ldImm64 dst imm nextImm) s t :=
  .ofWrites rfl (loadConst_next h)

theorem exec_next_ldMapFd {dst : Dst} {imm : Imm} (h : exec (.ldMapFd dst imm) s = .next t) :
    Effect (.ldMapFd dst imm) s t :=
  .ofWrites rfl (loadLookup_next h)

theorem exec_next_ldMapValueFd {dst : Dst} {imm : Imm} {nextImm : Imm} (h : exec (.ldMapValueFd dst imm nextImm) s = .next t) :
    Effect (.ldMapValueFd dst imm nextImm) s t :=
  .ofWrites rfl (loadLookup_next h)

theorem exec_next_ldVarAddr {dst : Dst} {imm : Imm} (h : exec (.ldVarAddr dst imm) s = .next t) :
    Effect (.ldVarAddr dst imm) s t :=
  .ofWrites rfl (loadLookup_next h)

theorem exec_next_ldCodeAddr {dst : Dst} {imm : Imm} (h : exec (.ldCodeAddr dst imm) s = .next t) :
    Effect (.ldCodeAddr dst imm) s t :=
  .ofWrites rfl (loadLookup_next h)

theorem exec_next_ldMapIdx {dst : Dst} {imm : Imm} (h : exec (.ldMapIdx dst imm) s = .next t) :
    Effect (.ldMapIdx dst imm) s t :=
  .ofWrites rfl (loadLookup_next h)

theorem exec_next_ldMapValueIdx {dst : Dst} {imm : Imm} {nextImm : Imm} (h : exec (.ldMapValueIdx dst imm nextImm) s = .next t) :
    Effect (.ldMapValueIdx dst imm nextImm) s t :=
  .ofWrites rfl (loadLookup_next h)

end

/-- Every next state of an instruction is one of the effects. -/
theorem exec_next : ∀ {i : Instr} {s t : State}, exec i s = .next t → Effect i s t
  | .add32K _ _, _, _, h => exec_next_add32K h
  | .add32X _ _, _, _, h => exec_next_add32X h
  | .add64K _ _, _, _, h => exec_next_add64K h
  | .add64X _ _, _, _, h => exec_next_add64X h
  | .sub32K _ _, _, _, h => exec_next_sub32K h
  | .sub32X _ _, _, _, h => exec_next_sub32X h
  | .sub64K _ _, _, _, h => exec_next_sub64K h
  | .sub64X _ _, _, _, h => exec_next_sub64X h
  | .mul32K _ _, _, _, h => exec_next_mul32K h
  | .mul32X _ _, _, _, h => exec_next_mul32X h
  | .mul64K _ _, _, _, h => exec_next_mul64K h
  | .mul64X _ _, _, _, h => exec_next_mul64X h
  | .div32K _ _, _, _, h => exec_next_div32K h
  | .div32X _ _, _, _, h => exec_next_div32X h
  | .div64K _ _, _, _, h => exec_next_div64K h
  | .div64X _ _, _, _, h => exec_next_div64X h
  | .or32K _ _, _, _, h => exec_next_or32K h
  | .or32X _ _, _, _, h => exec_next_or32X h
  | .or64K _ _, _, _, h => exec_next_or64K h
  | .or64X _ _, _, _, h => exec_next_or64X h
  | .and32K _ _, _, _, h => exec_next_and32K h
  | .and32X _ _, _, _, h => exec_next_and32X h
  | .and64K _ _, _, _, h => exec_next_and64K h
  | .and64X _ _, _, _, h => exec_next_and64X h
  | .lsh32K _ _, _, _, h => exec_next_lsh32K h
  | .lsh32X _ _, _, _, h => exec_next_lsh32X h
  | .lsh64K _ _, _, _, h => exec_next_lsh64K h
  | .lsh64X _ _, _, _, h => exec_next_lsh64X h
  | .rsh32K _ _, _, _, h => exec_next_rsh32K h
  | .rsh32X _ _, _, _, h => exec_next_rsh32X h
  | .rsh64K _ _, _, _, h => exec_next_rsh64K h
  | .rsh64X _ _, _, _, h => exec_next_rsh64X h
  | .neg32K _ _, _, _, h => exec_next_neg32K h
  | .neg32X _ _, _, _, h => exec_next_neg32X h
  | .neg64K _ _, _, _, h => exec_next_neg64K h
  | .neg64X _ _, _, _, h => exec_next_neg64X h
  | .mod32K _ _, _, _, h => exec_next_mod32K h
  | .mod32X _ _, _, _, h => exec_next_mod32X h
  | .mod64K _ _, _, _, h => exec_next_mod64K h
  | .mod64X _ _, _, _, h => exec_next_mod64X h
  | .xor32K _ _, _, _, h => exec_next_xor32K h
  | .xor32X _ _, _, _, h => exec_next_xor32X h
  | .xor64K _ _, _, _, h => exec_next_xor64K h
  | .xor64X _ _, _, _, h => exec_next_xor64X h
  | .mov32K _ _, _, _, h => exec_next_mov32K h
  | .mov32X _ _, _, _, h => exec_next_mov32X h
  | .mov64K _ _, _, _, h => exec_next_mov64K h
  | .mov64X _ _, _, _, h => exec_next_mov64X h
  | .arsh32K _ _, _, _, h => exec_next_arsh32K h
  | .arsh32X _ _, _, _, h => exec_next_arsh32X h
  | .arsh64K _ _, _, _, h => exec_next_arsh64K h
  | .arsh64X _ _, _, _, h => exec_next_arsh64X h
  | .le16 _, _, _, h => exec_next_le16 h
  | .le32 _, _, _, h => exec_next_le32 h
  | .le64 _, _, _, h => exec_next_le64 h
  | .be16 _, _, _, h => exec_next_be16 h
  | .be32 _, _, _, h => exec_next_be32 h
  | .be64 _, _, _, h => exec_next_be64 h
  | .jeq64K _ _ _, _, _, h => exec_next_jeq64K h
  | .jeq64X _ _ _, _, _, h => exec_next_jeq64X h
  | .jeq32K _ _ _, _, _, h => exec_next_jeq32K h
  | .jeq32X _ _ _, _, _, h => exec_next_jeq32X h
  | .jgt64K _ _ _, _, _, h => exec_next_jgt64K h
  | .jgt64X _ _ _, _, _, h => exec_next_jgt64X h
  | .jgt32K _ _ _, _, _, h => exec_next_jgt32K h
  | .jgt32X _ _ _, _, _, h => exec_next_jgt32X h
  | .jge64K _ _ _, _, _, h => exec_next_jge64K h
  | .jge64X _ _ _, _, _, h => exec_next_jge64X h
  | .jge32K _ _ _, _, _, h => exec_next_jge32K h
  | .jge32X _ _ _, _, _, h => exec_next_jge32X h
  | .jset64K _ _ _, _, _, h => exec_next_jset64K h
  | .jset64X _ _ _, _, _, h => exec_next_jset64X h
  | .jset32K _ _ _, _, _, h => exec_next_jset32K h
  | .jset32X _ _ _, _, _, h => exec_next_jset32X h
  | .jne64K _ _ _, _, _, h => exec_next_jne64K h
  | .jne64X _ _ _, _, _, h => exec_next_jne64X h
  | .jne32K _ _ _, _, _, h => exec_next_jne32K h
  | .jne32X _ _ _, _, _, h => exec_next_jne32X h
  | .jsgt64K _ _ _, _, _, h => exec_next_jsgt64K h
  | .jsgt64X _ _ _, _, _, h => exec_next_jsgt64X h
  | .jsgt32K _ _ _, _, _, h => exec_next_jsgt32K h
  | .jsgt32X _ _ _, _, _, h => exec_next_jsgt32X h
  | .jsge64K _ _ _, _, _, h => exec_next_jsge64K h
  | .jsge64X _ _ _, _, _, h => exec_next_jsge64X h
  | .jsge32K _ _ _, _, _, h => exec_next_jsge32K h
  | .jsge32X _ _ _, _, _, h => exec_next_jsge32X h
  | .jlt64K _ _ _, _, _, h => exec_next_jlt64K h
  | .jlt64X _ _ _, _, _, h => exec_next_jlt64X h
  | .jlt32K _ _ _, _, _, h => exec_next_jlt32K h
  | .jlt32X _ _ _, _, _, h => exec_next_jlt32X h
  | .jle64K _ _ _, _, _, h => exec_next_jle64K h
  | .jle64X _ _ _, _, _, h => exec_next_jle64X h
  | .jle32K _ _ _, _, _, h => exec_next_jle32K h
  | .jle32X _ _ _, _, _, h => exec_next_jle32X h
  | .jslt64K _ _ _, _, _, h => exec_next_jslt64K h
  | .jslt64X _ _ _, _, _, h => exec_next_jslt64X h
  | .jslt32K _ _ _, _, _, h => exec_next_jslt32K h
  | .jslt32X _ _ _, _, _, h => exec_next_jslt32X h
  | .jsle64K _ _ _, _, _, h => exec_next_jsle64K h
  | .jsle64X _ _ _, _, _, h => exec_next_jsle64X h
  | .jsle32K _ _ _, _, _, h => exec_next_jsle32K h
  | .jsle32X _ _ _, _, _, h => exec_next_jsle32X h
  | .ja _, _, _, h => exec_next_ja h
  | .callHelper _, _, _, h => exec_next_callHelper h
  | .callLocal _, _, _, h => exec_next_callLocal h
  | .callBtf _, _, _, h => exec_next_callBtf h
  | .exit, _, _, h => exec_next_exit h
  | .ldxW _ _ _, _, _, h => exec_next_ldxW h
  | .ldxH _ _ _, _, _, h => exec_next_ldxH h
  | .ldxB _ _ _, _, _, h => exec_next_ldxB h
  | .ldxDw _ _ _, _, _, h => exec_next_ldxDw h
  | .stW _ _ _, _, _, h => exec_next_stW h
  | .stH _ _ _, _, _, h => exec_next_stH h
  | .stB _ _ _, _, _, h => exec_next_stB h
  | .stDw _ _ _, _, _, h => exec_next_stDw h
  | .stxW _ _ _, _, _, h => exec_next_stxW h
  | .stxH _ _ _, _, _, h => exec_next_stxH h
  | .stxB _ _ _, _, _, h => exec_next_stxB h
  | .stxDw _ _ _, _, _, h => exec_next_stxDw h
  | .atomicAddW _ _ _, _, _, h => exec_next_atomicAddW h
  | .atomicOrW _ _ _, _, _, h => exec_next_atomicOrW h
  | .atomicAndW _ _ _, _, _, h => exec_next_atomicAndW h
  | .atomicXorW _ _ _, _, _, h => exec_next_atomicXorW h
  | .atomicFetchAddW _ _ _, _, _, h => exec_next_atomicFetchAddW h
  | .atomicFetchOrW _ _ _, _, _, h => exec_next_atomicFetchOrW h
  | .atomicFetchAndW _ _ _, _, _, h => exec_next_atomicFetchAndW h
  | .atomicFetchXorW _ _ _, _, _, h => exec_next_atomicFetchXorW h
  | .atomicXchgW _ _ _, _, _, h => exec_next_atomicXchgW h
  | .atomicCmpxchgW _ _ _, _, _, h => exec_next_atomicCmpxchgW h
  | .atomicAddDw _ _ _, _, _, h => exec_next_atomicAddDw h
  | .atomicOrDw _ _ _, _, _, h => exec_next_atomicOrDw h
  | .atomicAndDw _ _ _, _, _, h => exec_next_atomicAndDw h
  | .atomicXorDw _ _ _, _, _, h => exec_next_atomicXorDw h
  | .atomicFetchAddDw _ _ _, _, _, h => exec_next_atomicFetchAddDw h
  | .atomicFetchOrDw _ _ _, _, _, h => exec_next_atomicFetchOrDw h
  | .atomicFetchAndDw _ _ _, _, _, h => exec_next_atomicFetchAndDw h
  | .atomicFetchXorDw _ _ _, _, _, h => exec_next_atomicFetchXorDw h
  | .atomicXchgDw _ _ _, _, _, h => exec_next_atomicXchgDw h
  | .atomicCmpxchgDw _ _ _, _, _, h => exec_next_atomicCmpxchgDw h
  | .ldImm64 _ _ _, _, _, h => exec_next_ldImm64 h
  | .ldMapFd _ _, _, _, h => exec_next_ldMapFd h
  | .ldMapValueFd _ _ _, _, _, h => exec_next_ldMapValueFd h
  | .ldVarAddr _ _, _, _, h => exec_next_ldVarAddr h
  | .ldCodeAddr _ _, _, _, h => exec_next_ldCodeAddr h
  | .ldMapIdx _ _, _, _, h => exec_next_ldMapIdx h
  | .ldMapValueIdx _ _ _, _, _, h => exec_next_ldMapValueIdx h

end Sys2Proof.Machine
end

