-- ==== Sys2Proof/Laws/Fetch.lean ====
section
/-! SUPPORT. What fetching gives and what a step does with it. -/

namespace Sys2Proof.Machine

variable {s : State}

/-- The fields of a slot do not depend on what follows it. -/
theorem slotFields_slotBytes (e : Endian) (w : Slot) (rest : List Byte) :
    ∃ f, slotFields e (slotBytes w) = some (f, []) ∧ slotFields e (slotBytes w ++ rest) = some (f, rest) :=
  ⟨_, rfl, rfl⟩

/-- The first bytes fetched are those of the slot at `pc`. -/
theorem fetchBytes_eq (h0 : 0 ≤ s.pc) (h1 : s.pc < s.program.length) :
    s.fetchBytes = slotBytes (slotAt s.program s.pc.toNat) ++
      (if s.pc + 1 < s.program.length then slotBytes (slotAt s.program (s.pc.toNat + 1)) else []) := by
  obtain ⟨n, hn⟩ : ∃ n : Nat, s.pc = n := ⟨s.pc.toNat, by omega⟩
  rw [State.fetchBytes, hn]
  rw [hn] at h1
  simp only [Int.toNat_natCast, slotAt]
  have hl : n < s.program.length := by omega
  rw [List.drop_eq_getElem_cons hl, List.getD_eq_getElem _ _ hl]
  split
  · next h2 =>
    have hl2 : n + 1 < s.program.length := by omega
    rw [List.drop_eq_getElem_cons hl2, List.getD_eq_getElem _ _ hl2]
    simp only [List.take_succ_cons, List.take_zero, List.flatMap_cons, List.flatMap_nil, List.append_nil]
  · next h2 =>
    rw [List.drop_eq_nil_of_le (by omega)]
    simp

/-- The fields decoding starts from are those of the slot at `pc`. -/
theorem slotFields_fetchBytes (h0 : 0 ≤ s.pc) (h1 : s.pc < s.program.length) :
    slotFields s.platform.variant.endian s.fetchBytes = some (s.slotHere,
      if s.pc + 1 < s.program.length then slotBytes (slotAt s.program (s.pc.toNat + 1)) else []) := by
  rw [fetchBytes_eq h0 h1]
  obtain ⟨f, hf, hr⟩ := slotFields_slotBytes s.platform.variant.endian (slotAt s.program s.pc.toNat)
    (if s.pc + 1 < s.program.length then slotBytes (slotAt s.program (s.pc.toNat + 1)) else [])
  rw [hr, State.slotHere, hf]

/-- The opcode is the slot's first byte, in both byte orders. -/
theorem slotHere_opcode : s.slotHere.opcode = (slotAt s.program s.pc.toNat).extractLsb' 0 8 := by
  simp only [State.slotHere, slotBytes, slotFields]
  cases s.platform.variant.endian <;> rfl

/-- A step of a machine that is about to fetch. -/
theorem step_of_fetches (h : s.fetches) :
    step s = match s.fetch with
      | .ok i => exec i s
      | .error c => .next (s.raise c) := by
  obtain ⟨hr, hc, -, -⟩ := h
  cases hf : s.fetch <;> simp [step, hr, hc, hf]

/-- Fetching inside the program is decoding. -/
theorem fetch_of_fetches (h : s.fetches) :
    s.fetch = match decode s.platform.variant s.fetchBytes with
      | .ok (i, _) => .ok i
      | .error .truncated => .error (.pcOutOfRange s.pc)
      | .error _ => .error s.illegalHere := by
  obtain ⟨-, -, h0, h1⟩ := h
  have hn : ¬ (s.pc < 0 ∨ (s.program.length : Int) ≤ s.pc) := by omega
  cases hd : decode s.platform.variant s.fetchBytes with
  | ok p => simp [State.fetch, hn, hd]
  | error e => cases e <;> simp [State.fetch, hn, hd]

/-- A slot whose opcode is not 0x18 decodes by its own fields. -/
theorem decode_of_basic (h : s.fetches) (ho : s.slotHere.opcode ≠ 0x18) :
    decode s.platform.variant s.fetchBytes =
      (decodeBasic s.platform.variant s.slotHere).map fun i =>
        (i, if s.pc + 1 < s.program.length then slotBytes (slotAt s.program (s.pc.toNat + 1)) else []) := by
  rw [decode, slotFields_fetchBytes h.2.2.1 h.2.2.2]
  simp only [if_neg ho]

/-- A final status stays. -/
theorem step_of_final (h : s.status ≠ .running) : step s = .next s := by
  unfold step; split <;> simp_all

end Sys2Proof.Machine
end

