-- ==== Sys2Proof/Laws/PerInstr.lean ====
section
/-! SUPPORT. What holds of every instruction as syntax, one lemma for each constructor. -/

namespace Sys2Proof.Laws

/-- The encoding is eight bytes for each slot the instruction occupies (spec/30_encoding.md R90, R97, R98). -/
def EncodedSize.Statement (i : Instr) : Prop := ∀ v : Variant, (encode v i).length = 8 * i.slots

/-- An instruction of one slot. -/
theorem size_of_basic {i : Instr} (h2 : i.secondFields = none) (hs : i.slots = 1) : EncodedSize.Statement i := by
  intro v; simp [encode, h2, hs]

/-- An instruction of two slots. -/
theorem size_of_wide {i : Instr} {g : Fields} (h2 : i.secondFields = some g) (hs : i.slots = 2) :
    EncodedSize.Statement i := by
  intro v; simp [encode, h2, hs]

theorem EncodedSize.add32K (dst : Dst) (imm : Imm) : EncodedSize.Statement (.add32K dst imm) := size_of_basic rfl rfl
theorem EncodedSize.add32X (dst : Dst) (src : Reg) : EncodedSize.Statement (.add32X dst src) := size_of_basic rfl rfl
theorem EncodedSize.add64K (dst : Dst) (imm : Imm) : EncodedSize.Statement (.add64K dst imm) := size_of_basic rfl rfl
theorem EncodedSize.add64X (dst : Dst) (src : Reg) : EncodedSize.Statement (.add64X dst src) := size_of_basic rfl rfl
theorem EncodedSize.sub32K (dst : Dst) (imm : Imm) : EncodedSize.Statement (.sub32K dst imm) := size_of_basic rfl rfl
theorem EncodedSize.sub32X (dst : Dst) (src : Reg) : EncodedSize.Statement (.sub32X dst src) := size_of_basic rfl rfl
theorem EncodedSize.sub64K (dst : Dst) (imm : Imm) : EncodedSize.Statement (.sub64K dst imm) := size_of_basic rfl rfl
theorem EncodedSize.sub64X (dst : Dst) (src : Reg) : EncodedSize.Statement (.sub64X dst src) := size_of_basic rfl rfl
theorem EncodedSize.mul32K (dst : Dst) (imm : Imm) : EncodedSize.Statement (.mul32K dst imm) := size_of_basic rfl rfl
theorem EncodedSize.mul32X (dst : Dst) (src : Reg) : EncodedSize.Statement (.mul32X dst src) := size_of_basic rfl rfl
theorem EncodedSize.mul64K (dst : Dst) (imm : Imm) : EncodedSize.Statement (.mul64K dst imm) := size_of_basic rfl rfl
theorem EncodedSize.mul64X (dst : Dst) (src : Reg) : EncodedSize.Statement (.mul64X dst src) := size_of_basic rfl rfl
theorem EncodedSize.div32K (dst : Dst) (imm : Imm) : EncodedSize.Statement (.div32K dst imm) := size_of_basic rfl rfl
theorem EncodedSize.div32X (dst : Dst) (src : Reg) : EncodedSize.Statement (.div32X dst src) := size_of_basic rfl rfl
theorem EncodedSize.div64K (dst : Dst) (imm : Imm) : EncodedSize.Statement (.div64K dst imm) := size_of_basic rfl rfl
theorem EncodedSize.div64X (dst : Dst) (src : Reg) : EncodedSize.Statement (.div64X dst src) := size_of_basic rfl rfl
theorem EncodedSize.or32K (dst : Dst) (imm : Imm) : EncodedSize.Statement (.or32K dst imm) := size_of_basic rfl rfl
theorem EncodedSize.or32X (dst : Dst) (src : Reg) : EncodedSize.Statement (.or32X dst src) := size_of_basic rfl rfl
theorem EncodedSize.or64K (dst : Dst) (imm : Imm) : EncodedSize.Statement (.or64K dst imm) := size_of_basic rfl rfl
theorem EncodedSize.or64X (dst : Dst) (src : Reg) : EncodedSize.Statement (.or64X dst src) := size_of_basic rfl rfl
theorem EncodedSize.and32K (dst : Dst) (imm : Imm) : EncodedSize.Statement (.and32K dst imm) := size_of_basic rfl rfl
theorem EncodedSize.and32X (dst : Dst) (src : Reg) : EncodedSize.Statement (.and32X dst src) := size_of_basic rfl rfl
theorem EncodedSize.and64K (dst : Dst) (imm : Imm) : EncodedSize.Statement (.and64K dst imm) := size_of_basic rfl rfl
theorem EncodedSize.and64X (dst : Dst) (src : Reg) : EncodedSize.Statement (.and64X dst src) := size_of_basic rfl rfl
theorem EncodedSize.lsh32K (dst : Dst) (imm : Imm) : EncodedSize.Statement (.lsh32K dst imm) := size_of_basic rfl rfl
theorem EncodedSize.lsh32X (dst : Dst) (src : Reg) : EncodedSize.Statement (.lsh32X dst src) := size_of_basic rfl rfl
theorem EncodedSize.lsh64K (dst : Dst) (imm : Imm) : EncodedSize.Statement (.lsh64K dst imm) := size_of_basic rfl rfl
theorem EncodedSize.lsh64X (dst : Dst) (src : Reg) : EncodedSize.Statement (.lsh64X dst src) := size_of_basic rfl rfl
theorem EncodedSize.rsh32K (dst : Dst) (imm : Imm) : EncodedSize.Statement (.rsh32K dst imm) := size_of_basic rfl rfl
theorem EncodedSize.rsh32X (dst : Dst) (src : Reg) : EncodedSize.Statement (.rsh32X dst src) := size_of_basic rfl rfl
theorem EncodedSize.rsh64K (dst : Dst) (imm : Imm) : EncodedSize.Statement (.rsh64K dst imm) := size_of_basic rfl rfl
theorem EncodedSize.rsh64X (dst : Dst) (src : Reg) : EncodedSize.Statement (.rsh64X dst src) := size_of_basic rfl rfl
theorem EncodedSize.neg32K (dst : Dst) (imm : Imm) : EncodedSize.Statement (.neg32K dst imm) := size_of_basic rfl rfl
theorem EncodedSize.neg32X (dst : Dst) (src : Reg) : EncodedSize.Statement (.neg32X dst src) := size_of_basic rfl rfl
theorem EncodedSize.neg64K (dst : Dst) (imm : Imm) : EncodedSize.Statement (.neg64K dst imm) := size_of_basic rfl rfl
theorem EncodedSize.neg64X (dst : Dst) (src : Reg) : EncodedSize.Statement (.neg64X dst src) := size_of_basic rfl rfl
theorem EncodedSize.mod32K (dst : Dst) (imm : Imm) : EncodedSize.Statement (.mod32K dst imm) := size_of_basic rfl rfl
theorem EncodedSize.mod32X (dst : Dst) (src : Reg) : EncodedSize.Statement (.mod32X dst src) := size_of_basic rfl rfl
theorem EncodedSize.mod64K (dst : Dst) (imm : Imm) : EncodedSize.Statement (.mod64K dst imm) := size_of_basic rfl rfl
theorem EncodedSize.mod64X (dst : Dst) (src : Reg) : EncodedSize.Statement (.mod64X dst src) := size_of_basic rfl rfl
theorem EncodedSize.xor32K (dst : Dst) (imm : Imm) : EncodedSize.Statement (.xor32K dst imm) := size_of_basic rfl rfl
theorem EncodedSize.xor32X (dst : Dst) (src : Reg) : EncodedSize.Statement (.xor32X dst src) := size_of_basic rfl rfl
theorem EncodedSize.xor64K (dst : Dst) (imm : Imm) : EncodedSize.Statement (.xor64K dst imm) := size_of_basic rfl rfl
theorem EncodedSize.xor64X (dst : Dst) (src : Reg) : EncodedSize.Statement (.xor64X dst src) := size_of_basic rfl rfl
theorem EncodedSize.mov32K (dst : Dst) (imm : Imm) : EncodedSize.Statement (.mov32K dst imm) := size_of_basic rfl rfl
theorem EncodedSize.mov32X (dst : Dst) (src : Reg) : EncodedSize.Statement (.mov32X dst src) := size_of_basic rfl rfl
theorem EncodedSize.mov64K (dst : Dst) (imm : Imm) : EncodedSize.Statement (.mov64K dst imm) := size_of_basic rfl rfl
theorem EncodedSize.mov64X (dst : Dst) (src : Reg) : EncodedSize.Statement (.mov64X dst src) := size_of_basic rfl rfl
theorem EncodedSize.arsh32K (dst : Dst) (imm : Imm) : EncodedSize.Statement (.arsh32K dst imm) := size_of_basic rfl rfl
theorem EncodedSize.arsh32X (dst : Dst) (src : Reg) : EncodedSize.Statement (.arsh32X dst src) := size_of_basic rfl rfl
theorem EncodedSize.arsh64K (dst : Dst) (imm : Imm) : EncodedSize.Statement (.arsh64K dst imm) := size_of_basic rfl rfl
theorem EncodedSize.arsh64X (dst : Dst) (src : Reg) : EncodedSize.Statement (.arsh64X dst src) := size_of_basic rfl rfl
theorem EncodedSize.le16 (dst : Dst) : EncodedSize.Statement (.le16 dst) := size_of_basic rfl rfl
theorem EncodedSize.le32 (dst : Dst) : EncodedSize.Statement (.le32 dst) := size_of_basic rfl rfl
theorem EncodedSize.le64 (dst : Dst) : EncodedSize.Statement (.le64 dst) := size_of_basic rfl rfl
theorem EncodedSize.be16 (dst : Dst) : EncodedSize.Statement (.be16 dst) := size_of_basic rfl rfl
theorem EncodedSize.be32 (dst : Dst) : EncodedSize.Statement (.be32 dst) := size_of_basic rfl rfl
theorem EncodedSize.be64 (dst : Dst) : EncodedSize.Statement (.be64 dst) := size_of_basic rfl rfl
theorem EncodedSize.jeq64K (dst : Reg) (imm : Imm) (off : Off) : EncodedSize.Statement (.jeq64K dst imm off) := size_of_basic rfl rfl
theorem EncodedSize.jeq64X (dst : Reg) (src : Reg) (off : Off) : EncodedSize.Statement (.jeq64X dst src off) := size_of_basic rfl rfl
theorem EncodedSize.jeq32K (dst : Reg) (imm : Imm) (off : Off) : EncodedSize.Statement (.jeq32K dst imm off) := size_of_basic rfl rfl
theorem EncodedSize.jeq32X (dst : Reg) (src : Reg) (off : Off) : EncodedSize.Statement (.jeq32X dst src off) := size_of_basic rfl rfl
theorem EncodedSize.jgt64K (dst : Reg) (imm : Imm) (off : Off) : EncodedSize.Statement (.jgt64K dst imm off) := size_of_basic rfl rfl
theorem EncodedSize.jgt64X (dst : Reg) (src : Reg) (off : Off) : EncodedSize.Statement (.jgt64X dst src off) := size_of_basic rfl rfl
theorem EncodedSize.jgt32K (dst : Reg) (imm : Imm) (off : Off) : EncodedSize.Statement (.jgt32K dst imm off) := size_of_basic rfl rfl
theorem EncodedSize.jgt32X (dst : Reg) (src : Reg) (off : Off) : EncodedSize.Statement (.jgt32X dst src off) := size_of_basic rfl rfl
theorem EncodedSize.jge64K (dst : Reg) (imm : Imm) (off : Off) : EncodedSize.Statement (.jge64K dst imm off) := size_of_basic rfl rfl
theorem EncodedSize.jge64X (dst : Reg) (src : Reg) (off : Off) : EncodedSize.Statement (.jge64X dst src off) := size_of_basic rfl rfl
theorem EncodedSize.jge32K (dst : Reg) (imm : Imm) (off : Off) : EncodedSize.Statement (.jge32K dst imm off) := size_of_basic rfl rfl
theorem EncodedSize.jge32X (dst : Reg) (src : Reg) (off : Off) : EncodedSize.Statement (.jge32X dst src off) := size_of_basic rfl rfl
theorem EncodedSize.jset64K (dst : Reg) (imm : Imm) (off : Off) : EncodedSize.Statement (.jset64K dst imm off) := size_of_basic rfl rfl
theorem EncodedSize.jset64X (dst : Reg) (src : Reg) (off : Off) : EncodedSize.Statement (.jset64X dst src off) := size_of_basic rfl rfl
theorem EncodedSize.jset32K (dst : Reg) (imm : Imm) (off : Off) : EncodedSize.Statement (.jset32K dst imm off) := size_of_basic rfl rfl
theorem EncodedSize.jset32X (dst : Reg) (src : Reg) (off : Off) : EncodedSize.Statement (.jset32X dst src off) := size_of_basic rfl rfl
theorem EncodedSize.jne64K (dst : Reg) (imm : Imm) (off : Off) : EncodedSize.Statement (.jne64K dst imm off) := size_of_basic rfl rfl
theorem EncodedSize.jne64X (dst : Reg) (src : Reg) (off : Off) : EncodedSize.Statement (.jne64X dst src off) := size_of_basic rfl rfl
theorem EncodedSize.jne32K (dst : Reg) (imm : Imm) (off : Off) : EncodedSize.Statement (.jne32K dst imm off) := size_of_basic rfl rfl
theorem EncodedSize.jne32X (dst : Reg) (src : Reg) (off : Off) : EncodedSize.Statement (.jne32X dst src off) := size_of_basic rfl rfl
theorem EncodedSize.jsgt64K (dst : Reg) (imm : Imm) (off : Off) : EncodedSize.Statement (.jsgt64K dst imm off) := size_of_basic rfl rfl
theorem EncodedSize.jsgt64X (dst : Reg) (src : Reg) (off : Off) : EncodedSize.Statement (.jsgt64X dst src off) := size_of_basic rfl rfl
theorem EncodedSize.jsgt32K (dst : Reg) (imm : Imm) (off : Off) : EncodedSize.Statement (.jsgt32K dst imm off) := size_of_basic rfl rfl
theorem EncodedSize.jsgt32X (dst : Reg) (src : Reg) (off : Off) : EncodedSize.Statement (.jsgt32X dst src off) := size_of_basic rfl rfl
theorem EncodedSize.jsge64K (dst : Reg) (imm : Imm) (off : Off) : EncodedSize.Statement (.jsge64K dst imm off) := size_of_basic rfl rfl
theorem EncodedSize.jsge64X (dst : Reg) (src : Reg) (off : Off) : EncodedSize.Statement (.jsge64X dst src off) := size_of_basic rfl rfl
theorem EncodedSize.jsge32K (dst : Reg) (imm : Imm) (off : Off) : EncodedSize.Statement (.jsge32K dst imm off) := size_of_basic rfl rfl
theorem EncodedSize.jsge32X (dst : Reg) (src : Reg) (off : Off) : EncodedSize.Statement (.jsge32X dst src off) := size_of_basic rfl rfl
theorem EncodedSize.jlt64K (dst : Reg) (imm : Imm) (off : Off) : EncodedSize.Statement (.jlt64K dst imm off) := size_of_basic rfl rfl
theorem EncodedSize.jlt64X (dst : Reg) (src : Reg) (off : Off) : EncodedSize.Statement (.jlt64X dst src off) := size_of_basic rfl rfl
theorem EncodedSize.jlt32K (dst : Reg) (imm : Imm) (off : Off) : EncodedSize.Statement (.jlt32K dst imm off) := size_of_basic rfl rfl
theorem EncodedSize.jlt32X (dst : Reg) (src : Reg) (off : Off) : EncodedSize.Statement (.jlt32X dst src off) := size_of_basic rfl rfl
theorem EncodedSize.jle64K (dst : Reg) (imm : Imm) (off : Off) : EncodedSize.Statement (.jle64K dst imm off) := size_of_basic rfl rfl
theorem EncodedSize.jle64X (dst : Reg) (src : Reg) (off : Off) : EncodedSize.Statement (.jle64X dst src off) := size_of_basic rfl rfl
theorem EncodedSize.jle32K (dst : Reg) (imm : Imm) (off : Off) : EncodedSize.Statement (.jle32K dst imm off) := size_of_basic rfl rfl
theorem EncodedSize.jle32X (dst : Reg) (src : Reg) (off : Off) : EncodedSize.Statement (.jle32X dst src off) := size_of_basic rfl rfl
theorem EncodedSize.jslt64K (dst : Reg) (imm : Imm) (off : Off) : EncodedSize.Statement (.jslt64K dst imm off) := size_of_basic rfl rfl
theorem EncodedSize.jslt64X (dst : Reg) (src : Reg) (off : Off) : EncodedSize.Statement (.jslt64X dst src off) := size_of_basic rfl rfl
theorem EncodedSize.jslt32K (dst : Reg) (imm : Imm) (off : Off) : EncodedSize.Statement (.jslt32K dst imm off) := size_of_basic rfl rfl
theorem EncodedSize.jslt32X (dst : Reg) (src : Reg) (off : Off) : EncodedSize.Statement (.jslt32X dst src off) := size_of_basic rfl rfl
theorem EncodedSize.jsle64K (dst : Reg) (imm : Imm) (off : Off) : EncodedSize.Statement (.jsle64K dst imm off) := size_of_basic rfl rfl
theorem EncodedSize.jsle64X (dst : Reg) (src : Reg) (off : Off) : EncodedSize.Statement (.jsle64X dst src off) := size_of_basic rfl rfl
theorem EncodedSize.jsle32K (dst : Reg) (imm : Imm) (off : Off) : EncodedSize.Statement (.jsle32K dst imm off) := size_of_basic rfl rfl
theorem EncodedSize.jsle32X (dst : Reg) (src : Reg) (off : Off) : EncodedSize.Statement (.jsle32X dst src off) := size_of_basic rfl rfl
theorem EncodedSize.ja (off : Off) : EncodedSize.Statement (.ja off) := size_of_basic rfl rfl
theorem EncodedSize.callHelper (imm : Imm) : EncodedSize.Statement (.callHelper imm) := size_of_basic rfl rfl
theorem EncodedSize.callLocal (disp : BitVec 32) : EncodedSize.Statement (.callLocal disp) := size_of_basic rfl rfl
theorem EncodedSize.callBtf (imm : Imm) : EncodedSize.Statement (.callBtf imm) := size_of_basic rfl rfl
theorem EncodedSize.exit : EncodedSize.Statement (.exit) := size_of_basic rfl rfl
theorem EncodedSize.ldxW (dst : Dst) (src : Reg) (off : Off) : EncodedSize.Statement (.ldxW dst src off) := size_of_basic rfl rfl
theorem EncodedSize.ldxH (dst : Dst) (src : Reg) (off : Off) : EncodedSize.Statement (.ldxH dst src off) := size_of_basic rfl rfl
theorem EncodedSize.ldxB (dst : Dst) (src : Reg) (off : Off) : EncodedSize.Statement (.ldxB dst src off) := size_of_basic rfl rfl
theorem EncodedSize.ldxDw (dst : Dst) (src : Reg) (off : Off) : EncodedSize.Statement (.ldxDw dst src off) := size_of_basic rfl rfl
theorem EncodedSize.stW (dst : Reg) (off : Off) (imm : Imm) : EncodedSize.Statement (.stW dst off imm) := size_of_basic rfl rfl
theorem EncodedSize.stH (dst : Reg) (off : Off) (imm : Imm) : EncodedSize.Statement (.stH dst off imm) := size_of_basic rfl rfl
theorem EncodedSize.stB (dst : Reg) (off : Off) (imm : Imm) : EncodedSize.Statement (.stB dst off imm) := size_of_basic rfl rfl
theorem EncodedSize.stDw (dst : Reg) (off : Off) (imm : Imm) : EncodedSize.Statement (.stDw dst off imm) := size_of_basic rfl rfl
theorem EncodedSize.stxW (dst : Reg) (src : Reg) (off : Off) : EncodedSize.Statement (.stxW dst src off) := size_of_basic rfl rfl
theorem EncodedSize.stxH (dst : Reg) (src : Reg) (off : Off) : EncodedSize.Statement (.stxH dst src off) := size_of_basic rfl rfl
theorem EncodedSize.stxB (dst : Reg) (src : Reg) (off : Off) : EncodedSize.Statement (.stxB dst src off) := size_of_basic rfl rfl
theorem EncodedSize.stxDw (dst : Reg) (src : Reg) (off : Off) : EncodedSize.Statement (.stxDw dst src off) := size_of_basic rfl rfl
theorem EncodedSize.atomicAddW (dst : Reg) (src : Reg) (off : Off) : EncodedSize.Statement (.atomicAddW dst src off) := size_of_basic rfl rfl
theorem EncodedSize.atomicOrW (dst : Reg) (src : Reg) (off : Off) : EncodedSize.Statement (.atomicOrW dst src off) := size_of_basic rfl rfl
theorem EncodedSize.atomicAndW (dst : Reg) (src : Reg) (off : Off) : EncodedSize.Statement (.atomicAndW dst src off) := size_of_basic rfl rfl
theorem EncodedSize.atomicXorW (dst : Reg) (src : Reg) (off : Off) : EncodedSize.Statement (.atomicXorW dst src off) := size_of_basic rfl rfl
theorem EncodedSize.atomicFetchAddW (dst : Reg) (src : Dst) (off : Off) : EncodedSize.Statement (.atomicFetchAddW dst src off) := size_of_basic rfl rfl
theorem EncodedSize.atomicFetchOrW (dst : Reg) (src : Dst) (off : Off) : EncodedSize.Statement (.atomicFetchOrW dst src off) := size_of_basic rfl rfl
theorem EncodedSize.atomicFetchAndW (dst : Reg) (src : Dst) (off : Off) : EncodedSize.Statement (.atomicFetchAndW dst src off) := size_of_basic rfl rfl
theorem EncodedSize.atomicFetchXorW (dst : Reg) (src : Dst) (off : Off) : EncodedSize.Statement (.atomicFetchXorW dst src off) := size_of_basic rfl rfl
theorem EncodedSize.atomicXchgW (dst : Reg) (src : Dst) (off : Off) : EncodedSize.Statement (.atomicXchgW dst src off) := size_of_basic rfl rfl
theorem EncodedSize.atomicCmpxchgW (dst : Reg) (src : Reg) (off : Off) : EncodedSize.Statement (.atomicCmpxchgW dst src off) := size_of_basic rfl rfl
theorem EncodedSize.atomicAddDw (dst : Reg) (src : Reg) (off : Off) : EncodedSize.Statement (.atomicAddDw dst src off) := size_of_basic rfl rfl
theorem EncodedSize.atomicOrDw (dst : Reg) (src : Reg) (off : Off) : EncodedSize.Statement (.atomicOrDw dst src off) := size_of_basic rfl rfl
theorem EncodedSize.atomicAndDw (dst : Reg) (src : Reg) (off : Off) : EncodedSize.Statement (.atomicAndDw dst src off) := size_of_basic rfl rfl
theorem EncodedSize.atomicXorDw (dst : Reg) (src : Reg) (off : Off) : EncodedSize.Statement (.atomicXorDw dst src off) := size_of_basic rfl rfl
theorem EncodedSize.atomicFetchAddDw (dst : Reg) (src : Dst) (off : Off) : EncodedSize.Statement (.atomicFetchAddDw dst src off) := size_of_basic rfl rfl
theorem EncodedSize.atomicFetchOrDw (dst : Reg) (src : Dst) (off : Off) : EncodedSize.Statement (.atomicFetchOrDw dst src off) := size_of_basic rfl rfl
theorem EncodedSize.atomicFetchAndDw (dst : Reg) (src : Dst) (off : Off) : EncodedSize.Statement (.atomicFetchAndDw dst src off) := size_of_basic rfl rfl
theorem EncodedSize.atomicFetchXorDw (dst : Reg) (src : Dst) (off : Off) : EncodedSize.Statement (.atomicFetchXorDw dst src off) := size_of_basic rfl rfl
theorem EncodedSize.atomicXchgDw (dst : Reg) (src : Dst) (off : Off) : EncodedSize.Statement (.atomicXchgDw dst src off) := size_of_basic rfl rfl
theorem EncodedSize.atomicCmpxchgDw (dst : Reg) (src : Reg) (off : Off) : EncodedSize.Statement (.atomicCmpxchgDw dst src off) := size_of_basic rfl rfl
theorem EncodedSize.ldImm64 (dst : Dst) (imm : Imm) (nextImm : Imm) : EncodedSize.Statement (.ldImm64 dst imm nextImm) := size_of_wide rfl rfl
theorem EncodedSize.ldMapFd (dst : Dst) (imm : Imm) : EncodedSize.Statement (.ldMapFd dst imm) := size_of_wide rfl rfl
theorem EncodedSize.ldMapValueFd (dst : Dst) (imm : Imm) (nextImm : Imm) : EncodedSize.Statement (.ldMapValueFd dst imm nextImm) := size_of_wide rfl rfl
theorem EncodedSize.ldVarAddr (dst : Dst) (imm : Imm) : EncodedSize.Statement (.ldVarAddr dst imm) := size_of_wide rfl rfl
theorem EncodedSize.ldCodeAddr (dst : Dst) (imm : Imm) : EncodedSize.Statement (.ldCodeAddr dst imm) := size_of_wide rfl rfl
theorem EncodedSize.ldMapIdx (dst : Dst) (imm : Imm) : EncodedSize.Statement (.ldMapIdx dst imm) := size_of_wide rfl rfl
theorem EncodedSize.ldMapValueIdx (dst : Dst) (imm : Imm) (nextImm : Imm) : EncodedSize.Statement (.ldMapValueIdx dst imm nextImm) := size_of_wide rfl rfl

end Sys2Proof.Laws
end

