-- ==== Sys2Proof/Laws/Results.lean ====
section
/-! SUPPORT. What the shared operations compute, said once: shift amounts, byte swaps, accesses that pass their checks,
calls and returns. -/

namespace Sys2Proof.Machine

variable {s s1 s2 s3 : State} {dst : Dst} {base src r : Reg} {off : Off} {imm : Imm} {a e v : Word} {wd : Width}
  {bs : List Byte}

/-! ## Arithmetic -/

/-- The mask 63 is the remainder modulo 64. -/
theorem shiftAmount_word (b : Word) : shiftAmount b = b.toNat % 64 := by
  simp only [shiftAmount, BitVec.toNat_and, BitVec.toNat_ofNat]
  rw [show (64 - 1) % 2 ^ 64 = 2 ^ 6 - 1 by rfl, Nat.and_two_pow_sub_one_eq_mod]

/-- The mask 31 is the remainder modulo 32. -/
theorem shiftAmount_half (b : Half) : shiftAmount b = b.toNat % 32 := by
  simp only [shiftAmount, BitVec.toNat_and, BitVec.toNat_ofNat]
  rw [show (32 - 1) % 2 ^ 32 = 2 ^ 5 - 1 by rfl, Nat.and_two_pow_sub_one_eq_mod]

theorem bswap_16 (a : Word) : bswap 16 a = (a.extractLsb' 0 8 ++ a.extractLsb' 8 8).setWidth 64 := by
  simp [bswap, valueBytes, bytesValue]
  ext i hi; simp; grind

theorem bswap_32 (a : Word) : bswap 32 a =
    (a.extractLsb' 0 8 ++ a.extractLsb' 8 8 ++ a.extractLsb' 16 8 ++ a.extractLsb' 24 8).setWidth 64 := by
  simp [bswap, valueBytes, bytesValue]
  ext i hi; simp; grind

theorem bswap_64 (a : Word) : bswap 64 a =
    a.extractLsb' 0 8 ++ a.extractLsb' 8 8 ++ a.extractLsb' 16 8 ++ a.extractLsb' 24 8 ++
      a.extractLsb' 32 8 ++ a.extractLsb' 40 8 ++ a.extractLsb' 48 8 ++ a.extractLsb' 56 8 := by
  simp [bswap, valueBytes, bytesValue]
  ext i hi; simp; grind

/-! ## Accesses whose registers are readable and whose checks pass -/

/-- Reading a register leaves the platform as it was. -/
theorem readReg_platform (h : s.readReg r = .ok (v, s1)) : s1.platform = s.platform := by rw [readReg_state h]

theorem loadReg_of (h : s.readReg src = .ok (a, s1))
    (hc : checkAccess s.platform .read (s.platform.misaligned == .fault) (effAddr a off) wd = .ok ())
    (hb : s1.loadBytes (effAddr a off).toNat (widthBytes wd) = some (bs, s2)) :
    loadReg wd dst src off s = .next ((s2.writeReg dst (assemble s.platform.variant.endian bs)).advance 1) := by
  rw [← readReg_platform h] at hc ⊢
  simp [loadReg, h, memRead_of hc hb, pure, Except.pure]

theorem storeImm_of (h : s.readReg base = .ok (a, s1))
    (hc : checkAccess s.platform .write (s.platform.misaligned == .fault) (effAddr a off) wd = .ok ()) :
    storeImm wd base off imm s = .next ((s1.storeValue (effAddr a off) wd (immWord imm)).advance 1) := by
  rw [← readReg_platform h] at hc
  simp [storeImm, h, State.memWrite, hc, pure, Except.pure]

theorem storeReg_of (h : s.readReg base = .ok (a, s1)) (h2 : s1.readReg src = .ok (v, s2))
    (hc : checkAccess s.platform .write (s.platform.misaligned == .fault) (effAddr a off) wd = .ok ()) :
    storeReg wd base src off s = .next ((s2.storeValue (effAddr a off) wd v).advance 1) := by
  rw [← readReg_platform h, ← readReg_platform h2] at hc
  simp [storeReg, h, h2, State.memWrite, hc, pure, Except.pure]

theorem atomicUpdate_of {f : Word → Word → Word} (h : s.readReg base = .ok (a, s1)) (h2 : s1.readReg src = .ok (v, s2))
    (hr : checkAccess s.platform .read true (effAddr a off) wd = .ok ())
    (hw : checkAccess s.platform .write true (effAddr a off) wd = .ok ())
    (hb : s2.seenBytes (effAddr a off).toNat (widthBytes wd) = some bs) :
    atomicUpdate wd f base src off s = .next (((s2.noteLoad (effAddr a off).toNat bs).storeValue (effAddr a off) wd
      (f (assemble s.platform.variant.endian bs) v)).advance 1) := by
  have hp : s2.platform = s.platform := by rw [readReg_platform h2, readReg_platform h]
  rw [← hp] at hr hw ⊢
  simp only [atomicUpdate, h, h2, ok_bind]
  rw [atomically_of_seen _ hr hw hb]; simp [pure, Except.pure]

theorem atomicFetch_of {f : Word → Word → Word} (h : s.readReg base = .ok (a, s1))
    (h2 : s1.readReg dst.castSucc = .ok (v, s2))
    (hr : checkAccess s.platform .read true (effAddr a off) wd = .ok ())
    (hw : checkAccess s.platform .write true (effAddr a off) wd = .ok ())
    (hb : s2.seenBytes (effAddr a off).toNat (widthBytes wd) = some bs) :
    atomicFetch wd f base dst off s = .next ((((s2.noteLoad (effAddr a off).toNat bs).storeValue (effAddr a off) wd
      (f (assemble s.platform.variant.endian bs) v)).writeReg dst (assemble s.platform.variant.endian bs)).advance 1) := by
  have hp : s2.platform = s.platform := by rw [readReg_platform h2, readReg_platform h]
  rw [← hp] at hr hw ⊢
  simp only [atomicFetch, h, h2, ok_bind]
  rw [atomically_of_seen _ hr hw hb]; simp [pure, Except.pure]

/-- A compare and exchange that matches stores; one that does not changes no memory; R0 has the old value in both. -/
theorem atomicCompare_of {view : Word → Word} (h : s.readReg base = .ok (a, s1)) (h1 : s1.readReg 0 = .ok (e, s2))
    (h2 : s2.readReg src = .ok (v, s3))
    (hr : checkAccess s.platform .read true (effAddr a off) wd = .ok ())
    (hw : checkAccess s.platform .write true (effAddr a off) wd = .ok ())
    (hb : s3.seenBytes (effAddr a off).toNat (widthBytes wd) = some bs) :
    atomicCompare wd view base src off s = .next (((
      if view (assemble s.platform.variant.endian bs) = view e then
        (s3.noteLoad (effAddr a off).toNat bs).storeValue (effAddr a off) wd (view v)
      else s3.noteLoad (effAddr a off).toNat bs).writeReg 0 (assemble s.platform.variant.endian bs)).advance 1) := by
  have hp : s3.platform = s.platform := by rw [readReg_platform h2, readReg_platform h1, readReg_platform h]
  rw [← hp] at hr hw ⊢
  simp only [atomicCompare, h, h1, h2, ok_bind]
  rw [atomically_of_seen _ hr hw hb]
  by_cases hh : view (assemble s3.platform.variant.endian bs) = view e <;> simp [pure, Except.pure, hh]

/-- A store of 32 bits stores the low half of its value. -/
theorem storeValue_low32 (s : State) (addr v : Word) :
    s.storeValue addr .w (zext64 (low32 v)) = s.storeValue addr .w v := by
  have : valueBytes 4 (zext64 (low32 v)) = valueBytes 4 v := by
    simp only [valueBytes, zext64, low32, List.cons.injEq, and_true]
    refine ⟨?_, ?_, ?_, ?_⟩ <;> · ext i hi; simp; try grind
  simp only [State.storeValue, disassemble, widthBytes, this]

/-! ## Calls and returns -/

theorem callHelper_of {kind : HelperKind} {id : BitVec 32} {hp : Helper} {args : List Word} {r0 : Word}
    {ws : List (Word × Byte)} (hf : findHelper s.platform kind id = some hp)
    (hr : s.readRegs (hp.reads.map argReg) = .ok (args, s1)) (ho : s1.helperOutcome hp args = .returns r0 ws) :
    callHelper kind id s = .next (s1.afterHelper r0 ws) := by
  simp [callHelper, hf, hr, ho]

/-- A local call below the depth bound enters; `enterLocal_ok` says what the state then is. -/
theorem enterLocal_of (disp : Int) (h : s.frames.length < s.platform.maxCallDepth) :
    ∃ t, s.enterLocal disp = .ok t := by
  simp only [State.enterLocal, if_neg (Nat.not_le.2 h)]; exact ⟨_, rfl⟩

/-- R0 after a return is the callee's; R1 to R5 hold no value; R6 to R10 are the record's. -/
theorem leaveLocal_reg (s : State) (f : Frame) (rest : List Frame) :
    (s.leaveLocal f rest).reg 0 = s.reg 0 ∧
      (∀ r : Reg, 1 ≤ r.val → r.val ≤ 5 → (s.leaveLocal f rest).reg r = .unspecified) ∧
      (s.leaveLocal f rest).reg 6 = f.r6 ∧ (s.leaveLocal f rest).reg 7 = f.r7 ∧ (s.leaveLocal f rest).reg 8 = f.r8 ∧
      (s.leaveLocal f rest).reg 9 = f.r9 ∧ (s.leaveLocal f rest).reg 10 = .value f.r10 := by
  refine ⟨by simp [State.reg], fun r h1 h2 => ?_, by simp [State.reg], by simp [State.reg], by simp [State.reg],
    by simp [State.reg], rfl⟩
  obtain ⟨r, hr⟩ := r
  interval_cases r <;> simp_all [State.reg]

end Sys2Proof.Machine
end

