-- ==== Sys2Proof/Tests/Slice0.lean ====
section
/-! SUPPORT. The model's own tests: ill-formed instructions refused, the spec's example words decoded, one step on the
spec's example states, and for each statement with hypotheses a state and operands that meet them. The expected values
are the examples of the rules in spec/40 to spec/45 and the vectors of spec/95_test_vectors.md. -/

namespace Sys2Proof.Tests

-- One test after the other: each is evaluated by the kernel, and each of many at once would take a thread of its own.
set_option Elab.async false

open Sys2Proof Sys2Proof.Machine

/-! ## Small states and what is looked at -/

/-- The bare platform in an encoding variant. -/
def on (e : Endian) : Platform := { Platform.bare with variant := { Variant.letter with endian := e } }

/-- The bare platform on which a register or byte without a value faults. -/
def strict : Platform := { Platform.bare with noValue := .fault }

/-- One step of the instruction numbered `w`, with R0, R1, R2 as given and some bytes at 0x111f8. -/
def run (e : Endian) (x0 x1 x2 : Word) (bytes : List Byte) (nbits w : Nat) : Outcome :=
  step (State.withFetchWord { State.reset with
    platform := on e
    regs := #v[.value x0, .value x1, .value x2, .unspecified, .unspecified, .unspecified, .unspecified, .unspecified,
      .unspecified, .unspecified]
    mem := Memory.writeAll [] 0x111f8 bytes } nbits w)

/-- The same in slot 10, little-endian. -/
def runAt10 (x1 x2 : Word) (w : Nat) : Outcome :=
  step (State.withFetchWord { State.reset with
    pc := 10
    regs := #v[.unspecified, .value x1, .value x2, .unspecified, .unspecified, .unspecified, .unspecified, .unspecified,
      .unspecified, .unspecified] } 64 w)

def stateAfter : Outcome → Option State
  | .next t => some t
  | .fault _ => none
  | .refused _ => none

def faultAfter : Outcome → Option Machine.Fault
  | .next _ => none
  | .fault f => some f
  | .refused _ => none

def regAfter (o : Outcome) (r : Reg) : Option RegVal := (stateAfter o).map fun t => t.reg r
def pcAfter (o : Outcome) : Option Int := (stateAfter o).map State.pc
def statusAfter (o : Outcome) : Option Status := (stateAfter o).map State.status

def bytesAfter (o : Outcome) (a n : Nat) : List (Option Byte) :=
  match stateAfter o with
  | some t => (List.range n).map fun k => t.mem.read (a + k)
  | none => []

/-- The state before each row of the table V5: the 64-bit value at 0x111f8, R0, R1 and R2. After: that value, R2, R0. -/
def atomicAfter (e : Endian) (w : Nat) : List Word :=
  match stateAfter (run e 0x00000000FFFFFFFF 0x111f8 0xAAAAAAAA00000003 (disassemble e 8 0x00000000FFFFFFFF) 64 w) with
  | some t =>
    match t.reg 2, t.reg 0 with
    | .value x2, .value x0 => [assemble e ((List.range 8).map fun k => (t.mem.read (0x111f8 + k)).getD 0), x2, x0]
    | _, _ => []
  | none => []

/-- What the decoder reads from exactly these bytes. -/
def reads (e : Endian) (bytes : List Byte) : Option Instr :=
  match decode { Variant.letter with endian := e } bytes with
  | .ok (i, []) => some i
  | _ => none

/-! ## Ill-formed instructions -/

def negDst : Variant := { Variant.letter with negOperand := .dst }
def callImm : Variant := { Variant.letter with localCallField := .imm }

/-- A displacement of a local call that does not fit 16 bits is refused where the field is `offset`, and no other. -/
theorem test_wellFormed_callLocal :
    (Instr.callLocal 0x8000).wellFormed Variant.letter = false ∧
    (Instr.callLocal 0xffff7fff).wellFormed Variant.letter = false ∧
    (Instr.callLocal 0x7fff).wellFormed Variant.letter = true ∧
    (Instr.callLocal 0xffff8000).wellFormed Variant.letter = true ∧
    (Instr.callLocal 0x8000).wellFormed callImm = true := by
  decide

/-- Under NEG_OPERAND = dst a K form with an operand, and every X form, is refused. -/
theorem test_wellFormed_neg :
    (Instr.neg32K 1 5).wellFormed negDst = false ∧ (Instr.neg64K 1 5).wellFormed negDst = false ∧
    (Instr.neg32X 1 2).wellFormed negDst = false ∧ (Instr.neg64X 1 2).wellFormed negDst = false ∧
    (Instr.neg64K 1 0).wellFormed negDst = true ∧ (Instr.neg64X 1 2).wellFormed Variant.letter = true := by
  decide

/-- The words of V7 of spec/95_test_vectors.md and the reserved ones of V2 and V5 are refused; its last word is not. -/
theorem test_decode_refuses :
    ([0x0000000500002107, 0x000000050000210f, 0x0000000500010107, 0x0000000000000ab7, 0x0000000000000bb7,
      0x000000000000c1bf, 0x0000000000000000, 0x0000000000000020, 0x00000000000001e7, 0x000000000000108d,
      0x0000000100003085, 0x0000000100000095, 0x0000000000020105, 0x0000000000012115, 0x00000008000001d4,
      0x000000010000a1db, 0x000000e0000021c3] : List Nat).all
      (fun w => (decodeTableWord 64 w).isNone) = true ∧
    decodeTableWord 64 0x00000000fff8a161 = some (.ldxW 1 10 0xfff8) ∧
    decode negDst (slotBytes 0x0000000000000187) = .ok (.neg64K 1 0, []) ∧
    decode negDst (slotBytes 0x0000000100000187) = .error (.unusedField .imm) := by
  decide +kernel

/-! ## Decoding the words the rules of the instructions give as examples: one for every constructor -/

/-- The words of the examples of R147 to R158. -/
theorem test_decode_arithmetic_add_sub_mul :
    decodeTableWord 64 0x0000000100000104 = some (.add32K 1 1) ∧
    decodeTableWord 64 0x000000000000210c = some (.add32X 1 2) ∧
    decodeTableWord 64 0x0000000100000107 = some (.add64K 1 1) ∧
    decodeTableWord 64 0x000000000000210f = some (.add64X 1 2) ∧
    decodeTableWord 64 0xffffffff00000114 = some (.sub32K 1 0xffffffff) ∧
    decodeTableWord 64 0x000000000000211c = some (.sub32X 1 2) ∧
    decodeTableWord 64 0xffffffff00000117 = some (.sub64K 1 0xffffffff) ∧
    decodeTableWord 64 0x000000000000211f = some (.sub64X 1 2) ∧
    decodeTableWord 64 0xfffffffe00000124 = some (.mul32K 1 0xfffffffe) ∧
    decodeTableWord 64 0x000000000000212c = some (.mul32X 1 2) ∧
    decodeTableWord 64 0xfffffffe00000127 = some (.mul64K 1 0xfffffffe) ∧
    decodeTableWord 64 0x000000000000212f = some (.mul64X 1 2) := by
  decide +kernel

/-- The words of the examples of R159 to R186. -/
theorem test_decode_arithmetic_div_mod_neg :
    decodeTableWord 64 0xfffffffe00000134 = some (.div32K 1 0xfffffffe) ∧
    decodeTableWord 64 0x000000000000213c = some (.div32X 1 2) ∧
    decodeTableWord 64 0xfffffffe00000137 = some (.div64K 1 0xfffffffe) ∧
    decodeTableWord 64 0x000000000000213f = some (.div64X 1 2) ∧
    decodeTableWord 64 0x0000000100000184 = some (.neg32K 1 1) ∧
    decodeTableWord 64 0x000000000000218c = some (.neg32X 1 2) ∧
    decodeTableWord 64 0x0000000100000187 = some (.neg64K 1 1) ∧
    decodeTableWord 64 0x000000000000218f = some (.neg64X 1 2) ∧
    decodeTableWord 64 0x0000000300000194 = some (.mod32K 1 3) ∧
    decodeTableWord 64 0x000000000000219c = some (.mod32X 1 2) ∧
    decodeTableWord 64 0x0000000300000197 = some (.mod64K 1 3) ∧
    decodeTableWord 64 0x000000000000219f = some (.mod64X 1 2) := by
  decide +kernel

/-- The words of the examples of R163 to R194. -/
theorem test_decode_bitwise :
    decodeTableWord 64 0xfffffff000000144 = some (.or32K 1 0xfffffff0) ∧
    decodeTableWord 64 0x000000000000214c = some (.or32X 1 2) ∧
    decodeTableWord 64 0xfffffff000000147 = some (.or64K 1 0xfffffff0) ∧
    decodeTableWord 64 0x000000000000214f = some (.or64X 1 2) ∧
    decodeTableWord 64 0xffffff0000000154 = some (.and32K 1 0xffffff00) ∧
    decodeTableWord 64 0x000000000000215c = some (.and32X 1 2) ∧
    decodeTableWord 64 0xffffff0000000157 = some (.and64K 1 0xffffff00) ∧
    decodeTableWord 64 0x000000000000215f = some (.and64X 1 2) ∧
    decodeTableWord 64 0xffffffff000001a4 = some (.xor32K 1 0xffffffff) ∧
    decodeTableWord 64 0x00000000000021ac = some (.xor32X 1 2) ∧
    decodeTableWord 64 0xffffffff000001a7 = some (.xor64K 1 0xffffffff) ∧
    decodeTableWord 64 0x00000000000021af = some (.xor64X 1 2) ∧
    decodeTableWord 64 0xffffffff000001b4 = some (.mov32K 1 0xffffffff) ∧
    decodeTableWord 64 0x00000000000021bc = some (.mov32X 1 2) ∧
    decodeTableWord 64 0xffffffff000001b7 = some (.mov64K 1 0xffffffff) ∧
    decodeTableWord 64 0x00000000000021bf = some (.mov64X 1 2) := by
  decide +kernel

/-- The words of the examples of R171 to R198. -/
theorem test_decode_shifts :
    decodeTableWord 64 0x0000002100000164 = some (.lsh32K 1 0x00000021) ∧
    decodeTableWord 64 0x000000000000216c = some (.lsh32X 1 2) ∧
    decodeTableWord 64 0x0000002100000167 = some (.lsh64K 1 0x00000021) ∧
    decodeTableWord 64 0x000000000000216f = some (.lsh64X 1 2) ∧
    decodeTableWord 64 0x0000002100000174 = some (.rsh32K 1 0x00000021) ∧
    decodeTableWord 64 0x000000000000217c = some (.rsh32X 1 2) ∧
    decodeTableWord 64 0x0000002100000177 = some (.rsh64K 1 0x00000021) ∧
    decodeTableWord 64 0x000000000000217f = some (.rsh64X 1 2) ∧
    decodeTableWord 64 0x00000021000001c4 = some (.arsh32K 1 0x00000021) ∧
    decodeTableWord 64 0x00000000000021cc = some (.arsh32X 1 2) ∧
    decodeTableWord 64 0x00000021000001c7 = some (.arsh64K 1 0x00000021) ∧
    decodeTableWord 64 0x00000000000021cf = some (.arsh64X 1 2) := by
  decide +kernel

/-- The words of the examples of R202 to R207. -/
theorem test_decode_byte_swaps :
    decodeTableWord 64 0x00000010000001d4 = some (.le16 1) ∧
    decodeTableWord 64 0x00000020000001d4 = some (.le32 1) ∧
    decodeTableWord 64 0x00000040000001d4 = some (.le64 1) ∧
    decodeTableWord 64 0x00000010000001dc = some (.be16 1) ∧
    decodeTableWord 64 0x00000020000001dc = some (.be32 1) ∧
    decodeTableWord 64 0x00000040000001dc = some (.be64 1) := by
  decide +kernel

/-- The words of the examples of R218 to R253. -/
theorem test_decode_jumps_equal_and_unsigned :
    decodeTableWord 64 0x0000000500040115 = some (.jeq64K 1 5 4) ∧
    decodeTableWord 64 0x000000000004211d = some (.jeq64X 1 2 4) ∧
    decodeTableWord 64 0x0000000500040116 = some (.jeq32K 1 5 4) ∧
    decodeTableWord 64 0x000000000004211e = some (.jeq32X 1 2 4) ∧
    decodeTableWord 64 0x0000000500040125 = some (.jgt64K 1 5 4) ∧
    decodeTableWord 64 0x000000000004212d = some (.jgt64X 1 2 4) ∧
    decodeTableWord 64 0x0000000500040126 = some (.jgt32K 1 5 4) ∧
    decodeTableWord 64 0x000000000004212e = some (.jgt32X 1 2 4) ∧
    decodeTableWord 64 0x0000000500040135 = some (.jge64K 1 5 4) ∧
    decodeTableWord 64 0x000000000004213d = some (.jge64X 1 2 4) ∧
    decodeTableWord 64 0x0000000500040136 = some (.jge32K 1 5 4) ∧
    decodeTableWord 64 0x000000000004213e = some (.jge32X 1 2 4) ∧
    decodeTableWord 64 0x0000000500040145 = some (.jset64K 1 5 4) ∧
    decodeTableWord 64 0x000000000004214d = some (.jset64X 1 2 4) ∧
    decodeTableWord 64 0x0000000500040146 = some (.jset32K 1 5 4) ∧
    decodeTableWord 64 0x000000000004214e = some (.jset32X 1 2 4) ∧
    decodeTableWord 64 0x0000000500040155 = some (.jne64K 1 5 4) ∧
    decodeTableWord 64 0x000000000004215d = some (.jne64X 1 2 4) ∧
    decodeTableWord 64 0x0000000500040156 = some (.jne32K 1 5 4) ∧
    decodeTableWord 64 0x000000000004215e = some (.jne32X 1 2 4) ∧
    decodeTableWord 64 0x00000005000401a5 = some (.jlt64K 1 5 4) ∧
    decodeTableWord 64 0x00000000000421ad = some (.jlt64X 1 2 4) ∧
    decodeTableWord 64 0x00000005000401a6 = some (.jlt32K 1 5 4) ∧
    decodeTableWord 64 0x00000000000421ae = some (.jlt32X 1 2 4) ∧
    decodeTableWord 64 0x00000005000401b5 = some (.jle64K 1 5 4) ∧
    decodeTableWord 64 0x00000000000421bd = some (.jle64X 1 2 4) ∧
    decodeTableWord 64 0x00000005000401b6 = some (.jle32K 1 5 4) ∧
    decodeTableWord 64 0x00000000000421be = some (.jle32X 1 2 4) := by
  decide +kernel

/-- The words of the examples of R238 to R261. -/
theorem test_decode_jumps_signed :
    decodeTableWord 64 0x0000000500040165 = some (.jsgt64K 1 5 4) ∧
    decodeTableWord 64 0x000000000004216d = some (.jsgt64X 1 2 4) ∧
    decodeTableWord 64 0x0000000500040166 = some (.jsgt32K 1 5 4) ∧
    decodeTableWord 64 0x000000000004216e = some (.jsgt32X 1 2 4) ∧
    decodeTableWord 64 0x0000000500040175 = some (.jsge64K 1 5 4) ∧
    decodeTableWord 64 0x000000000004217d = some (.jsge64X 1 2 4) ∧
    decodeTableWord 64 0x0000000500040176 = some (.jsge32K 1 5 4) ∧
    decodeTableWord 64 0x000000000004217e = some (.jsge32X 1 2 4) ∧
    decodeTableWord 64 0x00000005000401c5 = some (.jslt64K 1 5 4) ∧
    decodeTableWord 64 0x00000000000421cd = some (.jslt64X 1 2 4) ∧
    decodeTableWord 64 0x00000005000401c6 = some (.jslt32K 1 5 4) ∧
    decodeTableWord 64 0x00000000000421ce = some (.jslt32X 1 2 4) ∧
    decodeTableWord 64 0x00000005000401d5 = some (.jsle64K 1 5 4) ∧
    decodeTableWord 64 0x00000000000421dd = some (.jsle64X 1 2 4) ∧
    decodeTableWord 64 0x00000005000401d6 = some (.jsle32K 1 5 4) ∧
    decodeTableWord 64 0x00000000000421de = some (.jsle32X 1 2 4) := by
  decide +kernel

/-- The words of the examples of R217 to R265. -/
theorem test_decode_calls_and_exit :
    decodeTableWord 64 0x00000000fffd0005 = some (.ja 0xfffd) ∧
    decodeTableWord 64 0x0000000700000085 = some (.callHelper 7) ∧
    decodeTableWord 64 0x0000000000051085 = some (.callLocal 5) ∧
    decodeTableWord 64 0x0000007b00002085 = some (.callBtf 0x0000007b) ∧
    decodeTableWord 64 0x0000000000000095 = some .exit := by
  decide +kernel

/-- The words of the examples of R285 to R296. -/
theorem test_decode_loads_and_stores :
    decodeTableWord 64 0x0000000000082161 = some (.ldxW 1 2 8) ∧
    decodeTableWord 64 0x0000000000082169 = some (.ldxH 1 2 8) ∧
    decodeTableWord 64 0x0000000000082171 = some (.ldxB 1 2 8) ∧
    decodeTableWord 64 0x0000000000082179 = some (.ldxDw 1 2 8) ∧
    decodeTableWord 64 0xfffffffefff00a62 = some (.stW 10 0xfff0 0xfffffffe) ∧
    decodeTableWord 64 0xfffffffefff00a6a = some (.stH 10 0xfff0 0xfffffffe) ∧
    decodeTableWord 64 0xfffffffefff00a72 = some (.stB 10 0xfff0 0xfffffffe) ∧
    decodeTableWord 64 0xfffffffefff00a7a = some (.stDw 10 0xfff0 0xfffffffe) ∧
    decodeTableWord 64 0x00000000fff81a63 = some (.stxW 10 1 0xfff8) ∧
    decodeTableWord 64 0x00000000fff81a6b = some (.stxH 10 1 0xfff8) ∧
    decodeTableWord 64 0x00000000fff81a73 = some (.stxB 10 1 0xfff8) ∧
    decodeTableWord 64 0x00000000fff81a7b = some (.stxDw 10 1 0xfff8) := by
  decide +kernel

/-- The words of the examples of R307 to R316. -/
theorem test_decode_atomic_words :
    decodeTableWord 64 0x00000000000021c3 = some (.atomicAddW 1 2 0) ∧
    decodeTableWord 64 0x00000040000021c3 = some (.atomicOrW 1 2 0) ∧
    decodeTableWord 64 0x00000050000021c3 = some (.atomicAndW 1 2 0) ∧
    decodeTableWord 64 0x000000a0000021c3 = some (.atomicXorW 1 2 0) ∧
    decodeTableWord 64 0x00000001000021c3 = some (.atomicFetchAddW 1 2 0) ∧
    decodeTableWord 64 0x00000041000021c3 = some (.atomicFetchOrW 1 2 0) ∧
    decodeTableWord 64 0x00000051000021c3 = some (.atomicFetchAndW 1 2 0) ∧
    decodeTableWord 64 0x000000a1000021c3 = some (.atomicFetchXorW 1 2 0) ∧
    decodeTableWord 64 0x000000e1000021c3 = some (.atomicXchgW 1 2 0) ∧
    decodeTableWord 64 0x000000f1000021c3 = some (.atomicCmpxchgW 1 2 0) := by
  decide +kernel

/-- The words of the examples of R317 to R326. -/
theorem test_decode_atomic_doublewords :
    decodeTableWord 64 0x00000000000021db = some (.atomicAddDw 1 2 0) ∧
    decodeTableWord 64 0x00000040000021db = some (.atomicOrDw 1 2 0) ∧
    decodeTableWord 64 0x00000050000021db = some (.atomicAndDw 1 2 0) ∧
    decodeTableWord 64 0x000000a0000021db = some (.atomicXorDw 1 2 0) ∧
    decodeTableWord 64 0x00000001000021db = some (.atomicFetchAddDw 1 2 0) ∧
    decodeTableWord 64 0x00000041000021db = some (.atomicFetchOrDw 1 2 0) ∧
    decodeTableWord 64 0x00000051000021db = some (.atomicFetchAndDw 1 2 0) ∧
    decodeTableWord 64 0x000000a1000021db = some (.atomicFetchXorDw 1 2 0) ∧
    decodeTableWord 64 0x000000e1000021db = some (.atomicXchgDw 1 2 0) ∧
    decodeTableWord 64 0x000000f1000021db = some (.atomicCmpxchgDw 1 2 0) := by
  decide +kernel

/-- The words of the examples of R334 to R340. -/
theorem test_decode_wide :
    decodeTableWord 128 0x11223344000000005566778800000118 = some (.ldImm64 1 0x55667788 0x11223344) ∧
    decodeTableWord 128 0x00000000000000000000000300001118 = some (.ldMapFd 1 3) ∧
    decodeTableWord 128 0x00000010000000000000000300002118 = some (.ldMapValueFd 1 3 0x00000010) ∧
    decodeTableWord 128 0x00000000000000000000000300003118 = some (.ldVarAddr 1 3) ∧
    decodeTableWord 128 0x00000000000000000000000300004118 = some (.ldCodeAddr 1 3) ∧
    decodeTableWord 128 0x00000000000000000000000300005118 = some (.ldMapIdx 1 3) ∧
    decodeTableWord 128 0x00000010000000000000000300006118 = some (.ldMapValueIdx 1 3 0x00000010) := by
  decide +kernel

/-- The bytes of some of those examples in little-endian BPF. -/
theorem test_decode_little_bytes :
    reads .little [0x07, 0x01, 0x00, 0x00, 0x01, 0x00, 0x00, 0x00] = some (.add64K 1 1) ∧
    reads .little [0xbf, 0x21, 0x00, 0x00, 0x00, 0x00, 0x00, 0x00] = some (.mov64X 1 2) ∧
    reads .little [0xdc, 0x01, 0x00, 0x00, 0x40, 0x00, 0x00, 0x00] = some (.be64 1) ∧
    reads .little [0x15, 0x01, 0x04, 0x00, 0x05, 0x00, 0x00, 0x00] = some (.jeq64K 1 5 4) ∧
    reads .little [0x7e, 0x21, 0x04, 0x00, 0x00, 0x00, 0x00, 0x00] = some (.jsge32X 1 2 4) ∧
    reads .little [0x85, 0x10, 0x05, 0x00, 0x00, 0x00, 0x00, 0x00] = some (.callLocal 5) ∧
    reads .little [0x95, 0x00, 0x00, 0x00, 0x00, 0x00, 0x00, 0x00] = some .exit ∧
    reads .little [0x79, 0x21, 0x08, 0x00, 0x00, 0x00, 0x00, 0x00] = some (.ldxDw 1 2 8) ∧
    reads .little [0x6a, 0x0a, 0xf0, 0xff, 0xfe, 0xff, 0xff, 0xff] = some (.stH 10 0xfff0 0xfffffffe) ∧
    reads .little [0x73, 0x1a, 0xf8, 0xff, 0x00, 0x00, 0x00, 0x00] = some (.stxB 10 1 0xfff8) ∧
    reads .little [0xdb, 0x21, 0x00, 0x00, 0x01, 0x00, 0x00, 0x00] = some (.atomicFetchAddDw 1 2 0) ∧
    reads .little [0x18, 0x01, 0x00, 0x00, 0x88, 0x77, 0x66, 0x55, 0x00, 0x00, 0x00, 0x00, 0x44, 0x33, 0x22, 0x11] = some (.ldImm64 1 0x55667788 0x11223344) := by
  decide +kernel

/-- The bytes of the same examples in big-endian BPF. -/
theorem test_decode_big_bytes :
    reads .big [0x07, 0x10, 0x00, 0x00, 0x00, 0x00, 0x00, 0x01] = some (.add64K 1 1) ∧
    reads .big [0xbf, 0x12, 0x00, 0x00, 0x00, 0x00, 0x00, 0x00] = some (.mov64X 1 2) ∧
    reads .big [0xdc, 0x10, 0x00, 0x00, 0x00, 0x00, 0x00, 0x40] = some (.be64 1) ∧
    reads .big [0x15, 0x10, 0x00, 0x04, 0x00, 0x00, 0x00, 0x05] = some (.jeq64K 1 5 4) ∧
    reads .big [0x7e, 0x12, 0x00, 0x04, 0x00, 0x00, 0x00, 0x00] = some (.jsge32X 1 2 4) ∧
    reads .big [0x85, 0x01, 0x00, 0x05, 0x00, 0x00, 0x00, 0x00] = some (.callLocal 5) ∧
    reads .big [0x95, 0x00, 0x00, 0x00, 0x00, 0x00, 0x00, 0x00] = some .exit ∧
    reads .big [0x79, 0x12, 0x00, 0x08, 0x00, 0x00, 0x00, 0x00] = some (.ldxDw 1 2 8) ∧
    reads .big [0x6a, 0xa0, 0xff, 0xf0, 0xff, 0xff, 0xff, 0xfe] = some (.stH 10 0xfff0 0xfffffffe) ∧
    reads .big [0x73, 0xa1, 0xff, 0xf8, 0x00, 0x00, 0x00, 0x00] = some (.stxB 10 1 0xfff8) ∧
    reads .big [0xdb, 0x12, 0x00, 0x00, 0x00, 0x00, 0x00, 0x01] = some (.atomicFetchAddDw 1 2 0) ∧
    reads .big [0x18, 0x10, 0x00, 0x00, 0x55, 0x66, 0x77, 0x88, 0x00, 0x00, 0x00, 0x00, 0x11, 0x22, 0x33, 0x44] = some (.ldImm64 1 0x55667788 0x11223344) := by
  decide +kernel

/-! ## One step on the states of the examples -/

/-- The results the examples of R147 to R158 give. -/
theorem test_step_arithmetic_add_sub_mul :
    regAfter (run .little 0 0x00000001FFFFFFFF 7 [] 64 0x0000000100000104) 1 = some (.value 0x0000000000000000) ∧
    regAfter (run .little 0 0x00000001FFFFFFFF 0x0000000200000001 [] 64 0x000000000000210c) 1 = some (.value 0x0000000000000000) ∧
    regAfter (run .little 0 0x00000001FFFFFFFF 7 [] 64 0x0000000100000107) 1 = some (.value 0x0000000200000000) ∧
    regAfter (run .little 0 0x00000001FFFFFFFF 0x0000000200000001 [] 64 0x000000000000210f) 1 = some (.value 0x0000000400000000) ∧
    regAfter (run .little 0 0x0000000100000000 7 [] 64 0xffffffff00000114) 1 = some (.value 0x0000000000000001) ∧
    regAfter (run .little 0 0x0000000100000000 0x0000000000000001 [] 64 0x000000000000211c) 1 = some (.value 0x00000000FFFFFFFF) ∧
    regAfter (run .little 0 0x0000000100000000 7 [] 64 0xffffffff00000117) 1 = some (.value 0x0000000100000001) ∧
    regAfter (run .little 0 0x0000000100000000 0x0000000000000001 [] 64 0x000000000000211f) 1 = some (.value 0x00000000FFFFFFFF) ∧
    regAfter (run .little 0 0x0000000180000003 7 [] 64 0xfffffffe00000124) 1 = some (.value 0x00000000FFFFFFFA) ∧
    regAfter (run .little 0 0x0000000180000003 0x0000000000000004 [] 64 0x000000000000212c) 1 = some (.value 0x000000000000000C) ∧
    regAfter (run .little 0 0x0000000180000003 7 [] 64 0xfffffffe00000127) 1 = some (.value 0xFFFFFFFCFFFFFFFA) ∧
    regAfter (run .little 0 0x0000000180000003 0x0000000000000004 [] 64 0x000000000000212f) 1 = some (.value 0x000000060000000C) := by
  decide +kernel

/-- The results the examples of R159 to R186 give. -/
theorem test_step_arithmetic_div_mod_neg :
    regAfter (run .little 0 0xFFFFFFFFFFFFFFF6 7 [] 64 0xfffffffe00000134) 1 = some (.value 0x0000000000000000) ∧
    regAfter (run .little 0 0xFFFFFFFFFFFFFFF6 0x0000000100000000 [] 64 0x000000000000213c) 1 = some (.value 0x0000000000000000) ∧
    regAfter (run .little 0 0xFFFFFFFFFFFFFFF6 7 [] 64 0xfffffffe00000137) 1 = some (.value 0x0000000000000000) ∧
    regAfter (run .little 0 0xFFFFFFFFFFFFFFF6 0x0000000100000000 [] 64 0x000000000000213f) 1 = some (.value 0x00000000FFFFFFFF) ∧
    regAfter (run .little 0 7 7 [] 64 0x0000000100000184) 1 = some (.value 0x00000000FFFFFFFF) ∧
    regAfter (run .little 0 7 0x0000000100000001 [] 64 0x000000000000218c) 1 = some (.value 0x00000000FFFFFFFF) ∧
    regAfter (run .little 0 7 7 [] 64 0x0000000100000187) 1 = some (.value 0xFFFFFFFFFFFFFFFF) ∧
    regAfter (run .little 0 7 0x0000000100000001 [] 64 0x000000000000218f) 1 = some (.value 0xFFFFFFFEFFFFFFFF) ∧
    regAfter (run .little 0 0xFFFFFFFF0000000A 7 [] 64 0x0000000300000194) 1 = some (.value 0x0000000000000001) ∧
    regAfter (run .little 0 0xFFFFFFFF0000000A 0x0000000000000000 [] 64 0x000000000000219c) 1 = some (.value 0x000000000000000A) ∧
    regAfter (run .little 0 0xFFFFFFFF0000000A 7 [] 64 0x0000000300000197) 1 = some (.value 0x0000000000000001) ∧
    regAfter (run .little 0 0xFFFFFFFF0000000A 0x0000000000000000 [] 64 0x000000000000219f) 1 = some (.value 0xFFFFFFFF0000000A) := by
  decide +kernel

/-- The results the examples of R163 to R194 give. -/
theorem test_step_bitwise :
    regAfter (run .little 0 0x0000000100000001 7 [] 64 0xfffffff000000144) 1 = some (.value 0x00000000FFFFFFF1) ∧
    regAfter (run .little 0 0x0000000100000001 0xF000000000000010 [] 64 0x000000000000214c) 1 = some (.value 0x0000000000000011) ∧
    regAfter (run .little 0 0x0000000100000001 7 [] 64 0xfffffff000000147) 1 = some (.value 0xFFFFFFFFFFFFFFF1) ∧
    regAfter (run .little 0 0x0000000100000001 0xF000000000000010 [] 64 0x000000000000214f) 1 = some (.value 0xF000000100000011) ∧
    regAfter (run .little 0 0x123456789ABCDEF0 7 [] 64 0xffffff0000000154) 1 = some (.value 0x000000009ABCDE00) ∧
    regAfter (run .little 0 0x123456789ABCDEF0 0x00000000FFFF0000 [] 64 0x000000000000215c) 1 = some (.value 0x000000009ABC0000) ∧
    regAfter (run .little 0 0x123456789ABCDEF0 7 [] 64 0xffffff0000000157) 1 = some (.value 0x123456789ABCDE00) ∧
    regAfter (run .little 0 0x123456789ABCDEF0 0x00000000FFFF0000 [] 64 0x000000000000215f) 1 = some (.value 0x000000009ABC0000) ∧
    regAfter (run .little 0 0x00000000FFFFFFFF 7 [] 64 0xffffffff000001a4) 1 = some (.value 0x0000000000000000) ∧
    regAfter (run .little 0 0x00000000FFFFFFFF 0xFFFFFFFF00000000 [] 64 0x00000000000021ac) 1 = some (.value 0x00000000FFFFFFFF) ∧
    regAfter (run .little 0 0x00000000FFFFFFFF 7 [] 64 0xffffffff000001a7) 1 = some (.value 0xFFFFFFFF00000000) ∧
    regAfter (run .little 0 0x00000000FFFFFFFF 0xFFFFFFFF00000000 [] 64 0x00000000000021af) 1 = some (.value 0xFFFFFFFFFFFFFFFF) ∧
    regAfter (run .little 0 7 7 [] 64 0xffffffff000001b4) 1 = some (.value 0x00000000FFFFFFFF) ∧
    regAfter (run .little 0 7 0x1122334455667788 [] 64 0x00000000000021bc) 1 = some (.value 0x0000000055667788) ∧
    regAfter (run .little 0 7 7 [] 64 0xffffffff000001b7) 1 = some (.value 0xFFFFFFFFFFFFFFFF) ∧
    regAfter (run .little 0 7 0x1122334455667788 [] 64 0x00000000000021bf) 1 = some (.value 0x1122334455667788) := by
  decide +kernel

/-- The results the examples of R171 to R198 give. -/
theorem test_step_shifts :
    regAfter (run .little 0 0x0000000180000001 7 [] 64 0x0000002100000164) 1 = some (.value 0x0000000000000002) ∧
    regAfter (run .little 0 0x0000000180000001 0x0000000000000041 [] 64 0x000000000000216c) 1 = some (.value 0x0000000000000002) ∧
    regAfter (run .little 0 0x0000000180000001 7 [] 64 0x0000002100000167) 1 = some (.value 0x0000000200000000) ∧
    regAfter (run .little 0 0x0000000180000001 0x0000000000000041 [] 64 0x000000000000216f) 1 = some (.value 0x0000000300000002) ∧
    regAfter (run .little 0 0x8000000080000000 7 [] 64 0x0000002100000174) 1 = some (.value 0x0000000040000000) ∧
    regAfter (run .little 0 0x8000000080000000 0x0000000000000041 [] 64 0x000000000000217c) 1 = some (.value 0x0000000040000000) ∧
    regAfter (run .little 0 0x8000000080000000 7 [] 64 0x0000002100000177) 1 = some (.value 0x0000000040000000) ∧
    regAfter (run .little 0 0x8000000080000000 0x0000000000000041 [] 64 0x000000000000217f) 1 = some (.value 0x4000000040000000) ∧
    regAfter (run .little 0 0x8000000080000000 7 [] 64 0x00000021000001c4) 1 = some (.value 0x00000000C0000000) ∧
    regAfter (run .little 0 0x8000000080000000 0x0000000000000041 [] 64 0x00000000000021cc) 1 = some (.value 0x00000000C0000000) ∧
    regAfter (run .little 0 0x8000000080000000 7 [] 64 0x00000021000001c7) 1 = some (.value 0xFFFFFFFFC0000000) ∧
    regAfter (run .little 0 0x8000000080000000 0x0000000000000041 [] 64 0x00000000000021cf) 1 = some (.value 0xC000000040000000) := by
  decide +kernel

/-- The results the examples of R202 to R207 give. -/
theorem test_step_byte_swaps :
    regAfter (run .little 0 0x1122334455667788 0 [] 64 0x00000010000001d4) 1 = some (.value 0x0000000000007788) ∧
    regAfter (run .big 0 0x1122334455667788 0 [] 64 0x00000010000001d4) 1 = some (.value 0x0000000000008877) ∧
    regAfter (run .little 0 0x1122334455667788 0 [] 64 0x00000020000001d4) 1 = some (.value 0x0000000055667788) ∧
    regAfter (run .big 0 0x1122334455667788 0 [] 64 0x00000020000001d4) 1 = some (.value 0x0000000088776655) ∧
    regAfter (run .little 0 0x1122334455667788 0 [] 64 0x00000040000001d4) 1 = some (.value 0x1122334455667788) ∧
    regAfter (run .big 0 0x1122334455667788 0 [] 64 0x00000040000001d4) 1 = some (.value 0x8877665544332211) ∧
    regAfter (run .little 0 0x1122334455667788 0 [] 64 0x00000010000001dc) 1 = some (.value 0x0000000000008877) ∧
    regAfter (run .big 0 0x1122334455667788 0 [] 64 0x00000010000001dc) 1 = some (.value 0x0000000000007788) ∧
    regAfter (run .little 0 0x1122334455667788 0 [] 64 0x00000020000001dc) 1 = some (.value 0x0000000088776655) ∧
    regAfter (run .big 0 0x1122334455667788 0 [] 64 0x00000020000001dc) 1 = some (.value 0x0000000055667788) ∧
    regAfter (run .little 0 0x1122334455667788 0 [] 64 0x00000040000001dc) 1 = some (.value 0x8877665544332211) ∧
    regAfter (run .big 0 0x1122334455667788 0 [] 64 0x00000040000001dc) 1 = some (.value 0x1122334455667788) := by
  decide +kernel

/-- The results the examples of R218 to R253 give. -/
theorem test_step_jumps_equal_and_unsigned :
    pcAfter (runAt10 0xFFFFFFFF00000005 0 0x0000000500040115) = some 11 ∧
    pcAfter (runAt10 0xFFFFFFFF00000005 0x0000000080000000 0x000000000004211d) = some 11 ∧
    pcAfter (runAt10 0xFFFFFFFF00000005 0 0x0000000500040116) = some 15 ∧
    pcAfter (runAt10 0xFFFFFFFF00000005 0x0000000080000000 0x000000000004211e) = some 11 ∧
    pcAfter (runAt10 0xFFFFFFFF00000005 0 0x0000000500040125) = some 15 ∧
    pcAfter (runAt10 0xFFFFFFFF00000005 0x0000000080000000 0x000000000004212d) = some 15 ∧
    pcAfter (runAt10 0xFFFFFFFF00000005 0 0x0000000500040126) = some 11 ∧
    pcAfter (runAt10 0xFFFFFFFF00000005 0x0000000080000000 0x000000000004212e) = some 11 ∧
    pcAfter (runAt10 0xFFFFFFFF00000005 0 0x0000000500040135) = some 15 ∧
    pcAfter (runAt10 0xFFFFFFFF00000005 0x0000000080000000 0x000000000004213d) = some 15 ∧
    pcAfter (runAt10 0xFFFFFFFF00000005 0 0x0000000500040136) = some 15 ∧
    pcAfter (runAt10 0xFFFFFFFF00000005 0x0000000080000000 0x000000000004213e) = some 11 ∧
    pcAfter (runAt10 0xFFFFFFFF00000005 0 0x0000000500040145) = some 15 ∧
    pcAfter (runAt10 0xFFFFFFFF00000005 0x0000000080000000 0x000000000004214d) = some 11 ∧
    pcAfter (runAt10 0xFFFFFFFF00000005 0 0x0000000500040146) = some 15 ∧
    pcAfter (runAt10 0xFFFFFFFF00000005 0x0000000080000000 0x000000000004214e) = some 11 ∧
    pcAfter (runAt10 0xFFFFFFFF00000005 0 0x0000000500040155) = some 15 ∧
    pcAfter (runAt10 0xFFFFFFFF00000005 0x0000000080000000 0x000000000004215d) = some 15 ∧
    pcAfter (runAt10 0xFFFFFFFF00000005 0 0x0000000500040156) = some 11 ∧
    pcAfter (runAt10 0xFFFFFFFF00000005 0x0000000080000000 0x000000000004215e) = some 15 ∧
    pcAfter (runAt10 0xFFFFFFFF00000005 0 0x00000005000401a5) = some 11 ∧
    pcAfter (runAt10 0xFFFFFFFF00000005 0x0000000080000000 0x00000000000421ad) = some 11 ∧
    pcAfter (runAt10 0xFFFFFFFF00000005 0 0x00000005000401a6) = some 11 ∧
    pcAfter (runAt10 0xFFFFFFFF00000005 0x0000000080000000 0x00000000000421ae) = some 15 ∧
    pcAfter (runAt10 0xFFFFFFFF00000005 0 0x00000005000401b5) = some 11 ∧
    pcAfter (runAt10 0xFFFFFFFF00000005 0x0000000080000000 0x00000000000421bd) = some 11 ∧
    pcAfter (runAt10 0xFFFFFFFF00000005 0 0x00000005000401b6) = some 15 ∧
    pcAfter (runAt10 0xFFFFFFFF00000005 0x0000000080000000 0x00000000000421be) = some 15 := by
  decide +kernel

/-- The results the examples of R238 to R261 give. -/
theorem test_step_jumps_signed :
    pcAfter (runAt10 0xFFFFFFFF00000005 0 0x0000000500040165) = some 11 ∧
    pcAfter (runAt10 0xFFFFFFFF00000005 0x0000000080000000 0x000000000004216d) = some 11 ∧
    pcAfter (runAt10 0xFFFFFFFF00000005 0 0x0000000500040166) = some 11 ∧
    pcAfter (runAt10 0xFFFFFFFF00000005 0x0000000080000000 0x000000000004216e) = some 15 ∧
    pcAfter (runAt10 0xFFFFFFFF00000005 0 0x0000000500040175) = some 11 ∧
    pcAfter (runAt10 0xFFFFFFFF00000005 0x0000000080000000 0x000000000004217d) = some 11 ∧
    pcAfter (runAt10 0xFFFFFFFF00000005 0 0x0000000500040176) = some 15 ∧
    pcAfter (runAt10 0xFFFFFFFF00000005 0x0000000080000000 0x000000000004217e) = some 15 ∧
    pcAfter (runAt10 0xFFFFFFFF00000005 0 0x00000005000401c5) = some 15 ∧
    pcAfter (runAt10 0xFFFFFFFF00000005 0x0000000080000000 0x00000000000421cd) = some 15 ∧
    pcAfter (runAt10 0xFFFFFFFF00000005 0 0x00000005000401c6) = some 11 ∧
    pcAfter (runAt10 0xFFFFFFFF00000005 0x0000000080000000 0x00000000000421ce) = some 11 ∧
    pcAfter (runAt10 0xFFFFFFFF00000005 0 0x00000005000401d5) = some 15 ∧
    pcAfter (runAt10 0xFFFFFFFF00000005 0x0000000080000000 0x00000000000421dd) = some 15 ∧
    pcAfter (runAt10 0xFFFFFFFF00000005 0 0x00000005000401d6) = some 15 ∧
    pcAfter (runAt10 0xFFFFFFFF00000005 0x0000000080000000 0x00000000000421de) = some 11 := by
  decide +kernel

/-- The results the examples of R217 to R265 give. -/
theorem test_step_calls_and_exit :
    pcAfter (runAt10 0 0 0x00000000fffd0005) = some 8 := by
  decide +kernel

/-- The results the examples of R285 to R296 give. -/
theorem test_step_loads_and_stores :
    regAfter (run .little 0 0 0x111f0 [0x88, 0x77, 0x66, 0x55, 0x44, 0x33, 0x22, 0x11] 64 0x0000000000082161) 1 = some (.value 0x0000000055667788) ∧
    regAfter (run .big 0 0 0x111f0 [0x88, 0x77, 0x66, 0x55, 0x44, 0x33, 0x22, 0x11] 64 0x0000000000082161) 1 = some (.value 0x0000000088776655) ∧
    regAfter (run .little 0 0 0x111f0 [0x88, 0x77, 0x66, 0x55, 0x44, 0x33, 0x22, 0x11] 64 0x0000000000082169) 1 = some (.value 0x0000000000007788) ∧
    regAfter (run .big 0 0 0x111f0 [0x88, 0x77, 0x66, 0x55, 0x44, 0x33, 0x22, 0x11] 64 0x0000000000082169) 1 = some (.value 0x0000000000008877) ∧
    regAfter (run .little 0 0 0x111f0 [0x88, 0x77, 0x66, 0x55, 0x44, 0x33, 0x22, 0x11] 64 0x0000000000082171) 1 = some (.value 0x0000000000000088) ∧
    regAfter (run .big 0 0 0x111f0 [0x88, 0x77, 0x66, 0x55, 0x44, 0x33, 0x22, 0x11] 64 0x0000000000082171) 1 = some (.value 0x0000000000000088) ∧
    regAfter (run .little 0 0 0x111f0 [0x88, 0x77, 0x66, 0x55, 0x44, 0x33, 0x22, 0x11] 64 0x0000000000082179) 1 = some (.value 0x1122334455667788) ∧
    regAfter (run .big 0 0 0x111f0 [0x88, 0x77, 0x66, 0x55, 0x44, 0x33, 0x22, 0x11] 64 0x0000000000082179) 1 = some (.value 0x8877665544332211) ∧
    bytesAfter (run .little 0 0 0 [] 64 0xfffffffefff00a62) 0x111f0 5 = [some 0xfe, some 0xff, some 0xff, some 0xff, none] ∧
    bytesAfter (run .big 0 0 0 [] 64 0xfffffffefff00a62) 0x111f0 5 = [some 0xff, some 0xff, some 0xff, some 0xfe, none] ∧
    bytesAfter (run .little 0 0 0 [] 64 0xfffffffefff00a6a) 0x111f0 3 = [some 0xfe, some 0xff, none] ∧
    bytesAfter (run .big 0 0 0 [] 64 0xfffffffefff00a6a) 0x111f0 3 = [some 0xff, some 0xfe, none] ∧
    bytesAfter (run .little 0 0 0 [] 64 0xfffffffefff00a72) 0x111f0 2 = [some 0xfe, none] ∧
    bytesAfter (run .big 0 0 0 [] 64 0xfffffffefff00a72) 0x111f0 2 = [some 0xfe, none] ∧
    bytesAfter (run .little 0 0 0 [] 64 0xfffffffefff00a7a) 0x111f0 8 = [some 0xfe, some 0xff, some 0xff, some 0xff, some 0xff, some 0xff, some 0xff, some 0xff] ∧
    bytesAfter (run .big 0 0 0 [] 64 0xfffffffefff00a7a) 0x111f0 8 = [some 0xff, some 0xff, some 0xff, some 0xff, some 0xff, some 0xff, some 0xff, some 0xfe] ∧
    bytesAfter (run .little 0 0x1122334455667788 0 [] 64 0x00000000fff81a63) 0x111f8 5 = [some 0x88, some 0x77, some 0x66, some 0x55, none] ∧
    bytesAfter (run .big 0 0x1122334455667788 0 [] 64 0x00000000fff81a63) 0x111f8 5 = [some 0x55, some 0x66, some 0x77, some 0x88, none] ∧
    bytesAfter (run .little 0 0x1122334455667788 0 [] 64 0x00000000fff81a6b) 0x111f8 3 = [some 0x88, some 0x77, none] ∧
    bytesAfter (run .big 0 0x1122334455667788 0 [] 64 0x00000000fff81a6b) 0x111f8 3 = [some 0x77, some 0x88, none] ∧
    bytesAfter (run .little 0 0x1122334455667788 0 [] 64 0x00000000fff81a73) 0x111f8 2 = [some 0x88, none] ∧
    bytesAfter (run .big 0 0x1122334455667788 0 [] 64 0x00000000fff81a73) 0x111f8 2 = [some 0x88, none] ∧
    bytesAfter (run .little 0 0x1122334455667788 0 [] 64 0x00000000fff81a7b) 0x111f8 8 = [some 0x88, some 0x77, some 0x66, some 0x55, some 0x44, some 0x33, some 0x22, some 0x11] ∧
    bytesAfter (run .big 0 0x1122334455667788 0 [] 64 0x00000000fff81a7b) 0x111f8 8 = [some 0x11, some 0x22, some 0x33, some 0x44, some 0x55, some 0x66, some 0x77, some 0x88] := by
  decide +kernel

/-- The results the examples of R307 to R316 give (the table V5 of spec/95_test_vectors.md). -/
theorem test_step_atomic_words :
    atomicAfter .little 0x00000000000021c3 = [0x0000000000000002, 0xAAAAAAAA00000003, 0x00000000FFFFFFFF] ∧
    atomicAfter .big 0x00000000000021c3 = [0x00000003FFFFFFFF, 0xAAAAAAAA00000003, 0x00000000FFFFFFFF] ∧
    atomicAfter .little 0x00000040000021c3 = [0x00000000FFFFFFFF, 0xAAAAAAAA00000003, 0x00000000FFFFFFFF] ∧
    atomicAfter .little 0x00000050000021c3 = [0x0000000000000003, 0xAAAAAAAA00000003, 0x00000000FFFFFFFF] ∧
    atomicAfter .little 0x000000a0000021c3 = [0x00000000FFFFFFFC, 0xAAAAAAAA00000003, 0x00000000FFFFFFFF] ∧
    atomicAfter .little 0x00000001000021c3 = [0x0000000000000002, 0x00000000FFFFFFFF, 0x00000000FFFFFFFF] ∧
    atomicAfter .little 0x00000041000021c3 = [0x00000000FFFFFFFF, 0x00000000FFFFFFFF, 0x00000000FFFFFFFF] ∧
    atomicAfter .little 0x00000051000021c3 = [0x0000000000000003, 0x00000000FFFFFFFF, 0x00000000FFFFFFFF] ∧
    atomicAfter .little 0x000000a1000021c3 = [0x00000000FFFFFFFC, 0x00000000FFFFFFFF, 0x00000000FFFFFFFF] ∧
    atomicAfter .big 0x000000a1000021c3 = [0x00000003FFFFFFFF, 0x0000000000000000, 0x00000000FFFFFFFF] ∧
    atomicAfter .little 0x000000e1000021c3 = [0x0000000000000003, 0x00000000FFFFFFFF, 0x00000000FFFFFFFF] ∧
    atomicAfter .little 0x000000f1000021c3 = [0x0000000000000003, 0xAAAAAAAA00000003, 0x00000000FFFFFFFF] ∧
    atomicAfter .big 0x000000f1000021c3 = [0x00000000FFFFFFFF, 0xAAAAAAAA00000003, 0x0000000000000000] := by
  decide +kernel

/-- The results the examples of R317 to R326 give (the table V5 of spec/95_test_vectors.md). -/
theorem test_step_atomic_doublewords :
    atomicAfter .little 0x00000000000021db = [0xAAAAAAAB00000002, 0xAAAAAAAA00000003, 0x00000000FFFFFFFF] ∧
    atomicAfter .little 0x00000040000021db = [0xAAAAAAAAFFFFFFFF, 0xAAAAAAAA00000003, 0x00000000FFFFFFFF] ∧
    atomicAfter .little 0x00000050000021db = [0x0000000000000003, 0xAAAAAAAA00000003, 0x00000000FFFFFFFF] ∧
    atomicAfter .little 0x000000a0000021db = [0xAAAAAAAAFFFFFFFC, 0xAAAAAAAA00000003, 0x00000000FFFFFFFF] ∧
    atomicAfter .little 0x00000001000021db = [0xAAAAAAAB00000002, 0x00000000FFFFFFFF, 0x00000000FFFFFFFF] ∧
    atomicAfter .little 0x00000041000021db = [0xAAAAAAAAFFFFFFFF, 0x00000000FFFFFFFF, 0x00000000FFFFFFFF] ∧
    atomicAfter .little 0x00000051000021db = [0x0000000000000003, 0x00000000FFFFFFFF, 0x00000000FFFFFFFF] ∧
    atomicAfter .little 0x000000a1000021db = [0xAAAAAAAAFFFFFFFC, 0x00000000FFFFFFFF, 0x00000000FFFFFFFF] ∧
    atomicAfter .little 0x000000e1000021db = [0xAAAAAAAA00000003, 0x00000000FFFFFFFF, 0x00000000FFFFFFFF] ∧
    atomicAfter .big 0x000000e1000021db = [0xAAAAAAAA00000003, 0x00000000FFFFFFFF, 0x00000000FFFFFFFF] ∧
    atomicAfter .little 0x000000f1000021db = [0xAAAAAAAA00000003, 0xAAAAAAAA00000003, 0x00000000FFFFFFFF] := by
  decide +kernel

/-! ## One step of the calls, the wide instructions and the faults -/

/-- A platform with one helper, by address, that adds its two arguments (P6 of spec/95_test_vectors.md) and writes two
bytes, one of them outside memory; one that faults, one that does not return, one that reads memory, one of which two
outcomes are allowed; with a map, a variable and a code address. -/
def rich : Platform :=
  { Platform.bare with
    helpers := [
      ⟨.byAddress, 7, [0, 1], .relation [⟨.const 1, .returns (.op .add (.arg 0) (.arg 1))
        [⟨.const 0x111ff, .const 1, .const 9⟩, ⟨.const 0x20000, .const 1, .const 9⟩]⟩]⟩,
      ⟨.byBtfId, 123, [], .relation [⟨.const 1, .returns (.const 5) []⟩]⟩,
      ⟨.byAddress, 8, [], .relation [⟨.const 1, .faults (.const 3)⟩]⟩, ⟨.byAddress, 9, [], .relation []⟩,
      ⟨.byAddress, 10, [0], .relation [⟨.hasByte (.arg 0), .returns (.byteAt (.arg 0))
        [⟨.arg 0, .const 2, .op .add (.bound 0) (.const 1)⟩]⟩]⟩,
      ⟨.byAddress, 11, [], .relation [⟨.const 1, .returns (.const 0) []⟩, ⟨.const 1, .returns (.const 1) []⟩]⟩]
    mapByFd := [(3, 0x1000), (4, 0x5000)]
    mapByIdx := [(3, 0x1000), (4, 0x5000)]
    mapVal := [(0x1000, 0x2000)]
    varAddr := [(3, 0x3000)]
    codeAddr := [((0, 3), 0x4000)] }

/-- R1 = 20, R2 = 22, R6 = 1, as at the call of P6. -/
def caller : State :=
  { State.reset with
    platform := rich
    regs := #v[.unspecified, .value 20, .value 22, .unspecified, .unspecified, .unspecified, .value 1, .unspecified,
      .unspecified, .unspecified] }

/-- P6 of spec/95_test_vectors.md: R0 is the sum, R1 holds no value, R6 is kept, a write outside memory has no effect. -/
theorem test_step_callHelper :
    regAfter (step (caller.withFetchWord 64 0x0000000700000085)) 0 = some (.value 42) ∧
    regAfter (step (caller.withFetchWord 64 0x0000000700000085)) 1 = some .unspecified ∧
    regAfter (step (caller.withFetchWord 64 0x0000000700000085)) 6 = some (.value 1) ∧
    bytesAfter (step (caller.withFetchWord 64 0x0000000700000085)) 0x111ff 1 = [some 9] ∧
    bytesAfter (step (caller.withFetchWord 64 0x0000000700000085)) 0x20000 1 = [none] ∧
    statusAfter (step (caller.withFetchWord 64 0x0000000100000085)) =
      some (.faulted (.unknownHelper .byAddress 1) 0) := by
  decide +kernel

/-- R266: a helper's relation is on its arguments and the memory; it may have no outcome, and it may have several. -/
theorem test_helper_relation :
    let s : State := { caller with
      regs := caller.regs.set 1 (.value 0x111f8), mem := Memory.writeAll [] 0x111f8 [0x80, 7, 6] }
    regAfter (step (s.withFetchWord 64 0x0000000a00000085)) 0 = some (.value 0x80) ∧
    bytesAfter (step (s.withFetchWord 64 0x0000000a00000085)) 0x111f8 3 = [some 1, some 2, some 6] ∧
    faultAfter (step (caller.withFetchWord 64 0x0000000a00000085)) = some (.helperDoesNotReturn .byAddress 10) ∧
    s.helperOutcomes [⟨.const 1, .returns (.const 0) []⟩, ⟨.const 1, .returns (.const 1) []⟩] [] =
      [.returns 0 [], .returns 1 []] := by
  decide +kernel

/-- The bytes `iterate` sums: 1 to 4 at 0x111f8. -/
theorem test_term_iterate :
    evalTerm (State.view { caller with mem := Memory.writeAll [] 0x111f8 [1, 2, 3, 4] } [0x111f8, 4]
      (Memory.read (Memory.writeAll [] 0x111f8 [1, 2, 3, 4])) Config.helperAny) []
      (.iterate (.arg 1) (.const 0) (.op .add (.bound 0) (.byteAt (.op .add (.arg 0) (.bound 1))))) = 10 := by
  decide +kernel

/-- R371 with R160, R162, R184, R186: DIV and MOD test the source register before they read the destination; the other
operations read the destination first. -/
theorem test_divide_reads_the_source_first :
    let s : State := State.enter strict [] .unspecified .unspecified .unspecified .unspecified .unspecified []
    statusAfter (exec (.div32X 1 2) s) = some (.faulted (.uninitialisedRegister 2) 0) ∧
    statusAfter (exec (.div64X 1 2) s) = some (.faulted (.uninitialisedRegister 2) 0) ∧
    statusAfter (exec (.mod32X 1 2) s) = some (.faulted (.uninitialisedRegister 2) 0) ∧
    statusAfter (exec (.mod64X 1 2) s) = some (.faulted (.uninitialisedRegister 2) 0) ∧
    statusAfter (exec (.mul64X 1 2) s) = some (.faulted (.uninitialisedRegister 1) 0) := by
  decide +kernel

/-- R51 and R404: a region of no bytes overlaps nothing, wherever it lies; one byte inside a frame overlaps it. -/
theorem test_regions_overlap :
    platformOk { Platform.bare with regions := ⟨0x111f8, 0, true, true, true⟩ :: Platform.bare.regions } = true ∧
    platformOk { Platform.bare with regions := ⟨0x111f8, 1, true, true, true⟩ :: Platform.bare.regions } = false ∧
    platformOk { Platform.bare with
      regions := [⟨0x20000, 16, true, true, false⟩, frameRegion 0 0x20008], stackSize := 0
      frameTops := [0x20008], maxCallDepth := 0 } = true := by
  decide +kernel

theorem test_step_callBtf :
    regAfter (step (caller.withFetchWord 64 0x0000007b00002085)) 0 = some (.value 5) ∧
    statusAfter (step (caller.withFetchWord 64 0x0000000700002085)) =
      some (.faulted (.unknownHelper .byBtfId 7) 0) := by
  decide +kernel

/-- The example of R263: at slot 3, CALL_LOCAL +5 pushes return slot 4 and goes to slot 9; R10 is FRAME_TOP(1). -/
theorem test_step_callLocal :
    let o := step (State.withFetchWord { caller with pc := 3 } 64 0x0000000000051085)
    pcAfter o = some 9 ∧ regAfter o 10 = some (.value 0x11000) ∧
      (stateAfter o).map State.frames = some [⟨4, .value 1, .unspecified, .unspecified, .unspecified, 0x11200⟩] := by
  decide +kernel

/-- Under LOCAL_CALL_FIELD = imm the same call is 0x0000000500001085 (R263). -/
theorem test_step_callLocal_imm :
    pcAfter (step (State.withFetchWord { caller with pc := 3, platform := { rich with variant := callImm } } 64
      0x0000000500001085)) = some 9 := by
  decide +kernel

/-- A state at depth 1, as the callee of P3 finds it before EXIT: R0 = 26, R6 = 99, caller's R6 = 7. -/
def callee : State :=
  { State.reset with
    regs := #v[.value 26, .value 5, .unspecified, .unspecified, .unspecified, .unspecified, .value 99, .unspecified,
      .unspecified, .unspecified]
    frames := [⟨3, .value 7, .unspecified, .unspecified, .unspecified, 0x11200⟩]
    r10 := 0x11000
    pc := 10 }

/-- P3 and P7 of spec/95_test_vectors.md: EXIT at depth 1 returns, at depth 0 ends the run with R0. -/
theorem test_step_exit :
    pcAfter (step (callee.withFetchWord 64 0x0000000000000095)) = some 3 ∧
    regAfter (step (callee.withFetchWord 64 0x0000000000000095)) 6 = some (.value 7) ∧
    regAfter (step (callee.withFetchWord 64 0x0000000000000095)) 10 = some (.value 0x11200) ∧
    statusAfter (run .little 0x21 0 0 [] 64 0x0000000000000095) = some (.exited 0x21) ∧
    statusAfter (step (State.withFetchWord { caller with platform := strict } 64 0x0000000000000095)) =
      some (.faulted (.uninitialisedRegister 0) 0) := by
  decide +kernel

/-- The examples of R334 to R340 on a platform whose map 3 is 0x1000, with its values at 0x2000. -/
theorem test_step_wide :
    regAfter (step (caller.withFetchWord 128 0x11223344000000005566778800000118)) 1 =
      some (.value 0x1122334455667788) ∧
    regAfter (step (caller.withFetchWord 128 0x00000001000000008000000000000118)) 1 = some (.value 0x0000000180000000) ∧
    regAfter (step (caller.withFetchWord 128 0x0000000300001118)) 1 = some (.value 0x1000) ∧
    regAfter (step (caller.withFetchWord 128 0x00000010000000000000000300002118)) 1 = some (.value 0x2010) ∧
    regAfter (step (caller.withFetchWord 128 0x0000000300003118)) 1 = some (.value 0x3000) ∧
    regAfter (step (caller.withFetchWord 128 0x0000000300004118)) 1 = some (.value 0x4000) ∧
    regAfter (step (caller.withFetchWord 128 0x0000000300005118)) 1 = some (.value 0x1000) ∧
    regAfter (step (caller.withFetchWord 128 0x00000010000000000000000300006118)) 1 = some (.value 0x2010) ∧
    pcAfter (step (caller.withFetchWord 128 0x0000000300001118)) = some 2 := by
  decide +kernel

/-- The faulting accesses of V4 and V5 of spec/95_test_vectors.md, with their information. -/
theorem test_step_access_faults :
    statusAfter (run .little 0 0 0 [] 64 0x00000000fffaa161) = some (.faulted (.misaligned 0x111fa .w) 0) ∧
    statusAfter (run .little 0 0 0 [] 64 0x000000000000a171) = some (.faulted (.memoryFault 0x11200 .b .read) 0) ∧
    statusAfter (run .little 0 0 0 [] 64 0x00000000fffc1a7b) = some (.faulted (.misaligned 0x111fc .dw) 0) ∧
    statusAfter (run .little 0 0 0xFFFFFFFFFFFFFFFC [] 64 0x0000000000002179) =
      some (.faulted (.memoryFault 0xFFFFFFFFFFFFFFFC .dw .read) 0) ∧
    statusAfter (run .little 0 0x111f8 0 [] 64 0x00000000000221c3) = some (.faulted (.misaligned 0x111fa .w) 0) ∧
    statusAfter (run .little 0 0 0 [] 64 0x0000000900003018) =
      some (.faulted (.platformLookupFault 3 9) 0) := by
  decide +kernel

/-! ## States and operands that meet the hypotheses of the statements -/

/-- A running state with a program of these slots, at `pc`, little-endian (so a slot is its canonical word). -/
def atSlot (prog : List Slot) (pc : Int) : State := { State.reset with program := prog, pc := pc }

/-- DecodeOfEncode: the extreme displacements of a local call, and a NEG of each parameter value. -/
theorem witness_DecodeOfEncode :
    (Instr.callLocal 0xffff8000).wellFormed Variant.letter = true ∧
    (Instr.callLocal 0x80000000).wellFormed callImm = true ∧
    (Instr.neg64K 9 0).wellFormed negDst = true ∧ (Instr.neg64X 9 10).wellFormed Variant.letter = true := by
  decide

theorem witness_EncodeOfDecode :
    decode Variant.letter [0x07, 0x01, 0x00, 0x00, 0x44, 0x33, 0x22, 0x11] = .ok (.add64K 1 0x11223344, []) := by
  decide

theorem witness_WorkedExampleDecodes : (on .little).variant.endian = .little ∧ (on .big).variant.endian = .big := by
  decide

theorem witness_ReservedOpcodesAreIllegal :
    (atSlot [0xff] 0).fetches ∧ reservedOpcode (atSlot [0xff] 0).slotHere.opcode = true ∧
    (atSlot [0x95, 0x00] 1).fetches ∧ reservedOpcode (atSlot [0x95, 0x00] 1).slotHere.opcode = true ∧
    reservedOpcode 0x18 = false := by
  unfold State.fetches; decide +kernel

/-- V2 of spec/95_test_vectors.md has the first of these. -/
theorem witness_OtherSwapWidthsAreIllegal :
    (atSlot [0x00000008000001d4] 0).fetches ∧ (atSlot [0x00000008000001d4] 0).slotHere.opcode = 0xd4 ∧
      (atSlot [0x00000008000001d4] 0).slotHere.imm = 8 ∧
    (atSlot [0x00000008000001dc] 0).fetches ∧ (atSlot [0x00000008000001dc] 0).slotHere.opcode = 0xdc ∧
      (atSlot [0x00000008000001dc] 0).slotHere.imm = 8 ∧
    (atSlot [0x00000010000001d7] 0).fetches ∧ (atSlot [0x00000010000001d7] 0).slotHere.opcode = 0xd7 ∧
    (atSlot [0x00000010000001df] 0).fetches ∧ (atSlot [0x00000010000001df] 0).slotHere.opcode = 0xdf := by
  unfold State.fetches; decide +kernel

theorem witness_OtherCallKindsAreIllegal :
    (atSlot [0x3085] 0).fetches ∧ (atSlot [0x3085] 0).slotHere.opcode = 0x85 ∧ (atSlot [0x3085] 0).slotHere.src = 3 ∧
    (atSlot [0xf085] 0).fetches ∧ (atSlot [0xf085] 0).slotHere.opcode = 0x85 ∧ (atSlot [0xf085] 0).slotHere.src = 15 ∧
    (atSlot [0x108d] 0).fetches ∧ (atSlot [0x108d] 0).slotHere.opcode = 0x8d ∧
    (atSlot [0x86] 0).fetches ∧ (atSlot [0x86] 0).slotHere.opcode = 0x86 ∧
    (atSlot [0x8e] 0).fetches ∧ (atSlot [0x8e] 0).slotHere.opcode = 0x8e := by
  unfold State.fetches; decide +kernel

theorem witness_LegacyPacketOpcodesAreIllegal :
    (atSlot [0x20] 0).fetches ∧ (atSlot [0x20] 0).slotHere.opcode.extractLsb' 5 3 = 1 ∧
      ((atSlot [0x20] 0).slotHere.opcode.extractLsb' 0 3).toNat = 0 ∧
    (atSlot [0x5b] 0).fetches ∧ (atSlot [0x5b] 0).slotHere.opcode.extractLsb' 5 3 = 2 ∧
      ((atSlot [0x5b] 0).slotHere.opcode.extractLsb' 0 3).toNat = 3 := by
  unfold State.fetches; decide +kernel

/-- V5 of spec/95_test_vectors.md: imm = 0x02 and 0x100, opcodes 0xcb and 0xd3. -/
theorem witness_OtherAtomicSelectorsAreIllegal :
    (atSlot [0x00000002000021c3] 0).fetches ∧ (atSlot [0x00000002000021c3] 0).slotHere.opcode = 0xc3 ∧
      (atSlot [0x00000002000021c3] 0).slotHere.imm = 2 ∧
    (atSlot [0x00000100000021db] 0).fetches ∧ (atSlot [0x00000100000021db] 0).slotHere.opcode = 0xdb ∧
      (atSlot [0x00000100000021db] 0).slotHere.imm = 0x100 ∧
    (2 : Imm) ∉ ([0x00, 0x01, 0x40, 0x41, 0x50, 0x51, 0xa0, 0xa1, 0xe1, 0xf1] : List Imm) ∧
    (0x100 : Imm) ∉ ([0x00, 0x01, 0x40, 0x41, 0x50, 0x51, 0xa0, 0xa1, 0xe1, 0xf1] : List Imm) ∧
    (atSlot [0xcb] 0).fetches ∧ (atSlot [0xcb] 0).slotHere.opcode = 0xcb ∧
    (atSlot [0xd3] 0).fetches ∧ (atSlot [0xd3] 0).slotHere.opcode = 0xd3 := by
  unfold State.fetches; decide +kernel

/-- Each clause at its first and last register number, and R10 as destination in each class. -/
theorem witness_WrongRegisterNumbersAreIllegal :
    ((atSlot [0x0b07] 0).fetches ∧ (atSlot [0x0b07] 0).slotHere.dst = 11) ∧
    ((atSlot [0x0f18, 0] 0).fetches ∧ (atSlot [0x0f18, 0] 0).slotHere.dst = 15 ∧
      (atSlot [0x0f18, 0] 0).pc + 1 < (atSlot [0x0f18, 0] 0).program.length) ∧
    ((atSlot [0xb10f] 0).fetches ∧ (atSlot [0xb10f] 0).slotHere.src = 11 ∧
      (atSlot [0xb10f] 0).slotHere.opcode = 0x0f) ∧
    ((atSlot [0xf10f] 0).fetches ∧ (atSlot [0xf10f] 0).slotHere.src = 15) ∧
    ((atSlot [0x0a04] 0).fetches ∧ (atSlot [0x0a04] 0).slotHere.dst = 10 ∧
      (atSlot [0x0a04] 0).slotHere.opcode.extractLsb' 0 3 = 4) ∧
    ((atSlot [0x0ab7] 0).fetches ∧ (atSlot [0x0ab7] 0).slotHere.dst = 10 ∧
      (atSlot [0x0ab7] 0).slotHere.opcode.extractLsb' 0 3 = 7) ∧
    ((atSlot [0xfff8aa61] 0).fetches ∧ (atSlot [0xfff8aa61] 0).slotHere.dst = 10 ∧
      (atSlot [0xfff8aa61] 0).slotHere.opcode.extractLsb' 0 3 = 1) ∧
    ((atSlot [0x0a18, 0] 0).fetches ∧ (atSlot [0x0a18, 0] 0).slotHere.dst = 10 ∧
      (atSlot [0x0a18, 0] 0).slotHere.opcode = 0x18) ∧
    ((atSlot [0x00000001fff8aadb] 0).fetches ∧ (atSlot [0x00000001fff8aadb] 0).slotHere.src = 10 ∧
      (atSlot [0x00000001fff8aadb] 0).slotHere.opcode = 0xdb ∧ (atSlot [0x00000001fff8aadb] 0).slotHere.imm = 0x01) ∧
    ((atSlot [0x000000e1fff8aac3] 0).fetches ∧ (atSlot [0x000000e1fff8aac3] 0).slotHere.src = 10 ∧
      (atSlot [0x000000e1fff8aac3] 0).slotHere.opcode = 0xc3 ∧ (atSlot [0x000000e1fff8aac3] 0).slotHere.imm = 0xe1) := by
  unfold State.fetches; decide +kernel

/-- A wide instruction in the last slot; the last and first subtypes above 6; a second slot with each field set; a jump
into the second slot (P7 of spec/95_test_vectors.md). -/
theorem witness_WideInstructionChecks :
    ((atSlot [0x0118] 0).fetches ∧ (atSlot [0x0118] 0).slotHere.opcode = 0x18 ∧
      (atSlot [0x0118] 0).pc + 1 = (atSlot [0x0118] 0).program.length) ∧
    ((atSlot [0x7118, 0] 0).fetches ∧ (atSlot [0x7118, 0] 0).slotHere.src.toNat = 7 ∧
      (atSlot [0x7118, 0] 0).pc + 1 < (atSlot [0x7118, 0] 0).program.length) ∧
    ((atSlot [0xf118, 0] 0).fetches ∧ (atSlot [0xf118, 0] 0).slotHere.src.toNat = 15) ∧
    ((atSlot [0x0118, 0x01] 0).fetches ∧ (atSlot [0x0118, 0x01] 1).slotHere.opcode = 1) ∧
    ((atSlot [0x0118, 0x0100] 0).fetches ∧ (atSlot [0x0118, 0x0100] 1).slotHere.dst = 1) ∧
    ((atSlot [0x0118, 0x1000] 0).fetches ∧ (atSlot [0x0118, 0x1000] 1).slotHere.src = 1) ∧
    ((atSlot [0x0118, 0x10000] 0).fetches ∧ (atSlot [0x0118, 0x10000] 1).slotHere.offset = 1) ∧
    ((atSlot [0x0118, 0] 1).fetches ∧ (atSlot [0x0118, 0] 1).slotHere.opcode = 0) := by
  unfold State.fetches; decide +kernel

theorem witness_StepRunsTheDecodedInstruction :
    (atSlot [0x95] 0).fetches ∧
    decode (atSlot [0x95] 0).platform.variant (atSlot [0x95] 0).fetchBytes = .ok (.exit, []) := by
  unfold State.fetches; decide +kernel

/-- P7 of spec/95_test_vectors.md: pc = -1 and pc = N. -/
theorem witness_FetchOutsideTheProgramFaults :
    (atSlot [0x95] (-1)).status = .running ∧ (atSlot [0x95] (-1)).configured = true ∧ (atSlot [0x95] (-1)).pc < 0 ∧
    (atSlot [0x95] 1).status = .running ∧ (atSlot [0x95] 1).configured = true ∧
      ((atSlot [0x95] 1).program.length : Int) ≤ (atSlot [0x95] 1).pc ∧
    (atSlot [0x95, 0x0118] 1).fetches ∧ (atSlot [0x95, 0x0118] 1).slotHere.opcode = 0x18 ∧
      (atSlot [0x95, 0x0118] 1).pc + 1 = (atSlot [0x95, 0x0118] 1).program.length := by
  unfold State.fetches; decide +kernel

theorem witness_IllegalEncodingsFault :
    (atSlot [0x0000000100000095] 0).fetches ∧
    decode (atSlot [0x0000000100000095] 0).platform.variant (atSlot [0x0000000100000095] 0).fetchBytes =
      .error (.unusedField .imm) ∧
    DecodeError.unusedField .imm ≠ .truncated := by
  unfold State.fetches; decide +kernel

/-- A step that goes on, one that ends the run, one that faults; and a final state. -/
theorem witness_RunEndsInOneOfTwoWays :
    statusAfter (step (atSlot [0xb7] 0)) = some .running ∧ (atSlot [0xb7] 0).status = .running ∧
    statusAfter (step (atSlot [0x95] 0)) = some (.exited 0) ∧
    statusAfter (step (atSlot [0x00] 0)) = some (.faulted (.illegalInstruction 0 none) 0) ∧
    ({ atSlot [0x95] 0 with status := .exited 0 } : State).status ≠ .running := by
  decide +kernel

/-- A configuration that runs, a final state without one, the helper that does not return, and no program. -/
theorem witness_StepAlwaysAnswers :
    (atSlot [0x95] 0).configured = true ∧
    ({ State.reset with status := .exited 0 } : State).status ≠ .running ∧
    ({ caller with program := [0x0000000900000085] } : State).configured = true ∧
    faultAfter (step { caller with program := [0x0000000900000085] }) = some (.helperDoesNotReturn .byAddress 9) ∧
    State.reset.configured = false ∧ State.reset.status = .running := by
  decide +kernel

/-- The deepest frame's lowest byte, and a byte above every frame. -/
theorem witness_EntryState :
    8 ≤ Platform.bare.maxCallDepth ∧ (frameTop Platform.bare 8).toNat - Platform.bare.stackSize = 0x10000 ∧
    0x10000 < (frameTop Platform.bare 8).toNat ∧
    ((List.range 9).all fun d => decide ((frameTop Platform.bare d).toNat ≤ 0x11200)) = true := by
  decide +kernel

theorem witness_StepKeepsTheInvariant :
    (atSlot [0xb7] 0).inv = true ∧ statusAfter (step (atSlot [0xb7] 0)) = some .running ∧
    callee.inv = true ∧ pcAfter (step (callee.withFetchWord 64 0x95)) = some 3 := by
  decide +kernel

/-- The whole of the first and of the deepest frame, and its last byte. -/
theorem witness_FramesArePrivateMemory :
    platformOk Platform.bare = true ∧ 8 ≤ Platform.bare.maxCallDepth ∧
    (frameTop Platform.bare 8).toNat - Platform.bare.stackSize ≤ 0x10000 ∧
    0x10000 + 512 ≤ (frameTop Platform.bare 8).toNat ∧
    (frameTop Platform.bare 0).toNat - Platform.bare.stackSize ≤ 0x111ff ∧ 0x111ff + 1 ≤ (frameTop Platform.bare 0).toNat := by
  decide +kernel

/-- R0 holds no value, R1 does, R10 is another register than any written one; on either treatment. -/
theorem witness_RegisterAccess :
    caller.reg 1 = .value 20 ∧ caller.reg 0 = .unspecified ∧ caller.platform.noValue = .draw ∧
    ({ caller with platform := strict } : State).reg 0 = .unspecified ∧ strict.noValue = .fault ∧
    (10 : Reg) ≠ (9 : Dst).castSucc := by
  decide +kernel

/-- R1 can be read and R3 cannot: the second of two operands, the only argument of a helper, EXIT's R0. -/
theorem witness_UnreadableRegistersFault :
    strict.noValue = .fault ∧
    (registersRead { caller with platform := strict } (.add64X 1 3)).find?
      (fun r => ({ caller with platform := strict } : State).reg r == .unspecified) = some 3 ∧
    (registersRead { caller with platform := { rich with noValue := .fault, helpers := [⟨.byAddress, 7, [2], .oracle⟩] } }
      (.callHelper 7)).find? (fun r => caller.reg r == .unspecified) = some 3 ∧
    (registersRead { caller with platform := strict } .exit).find?
      (fun r => ({ caller with platform := strict } : State).reg r == .unspecified) = some 0 := by
  decide +kernel

/-- The operands the arithmetic statements ask for: both readable (R1 and R2 hold values), or one drawn. -/
theorem readable_operands :
    caller.readReg (1 : Dst).castSucc = .ok (20, caller) ∧ caller.readReg 2 = .ok (22, caller) ∧
    caller.readReg (0 : Dst).castSucc = .ok (Config.freeWord 0, { caller with draws := ⟨1, []⟩ }) :=
  ⟨rfl, rfl, rfl⟩

/-- R36 with `src_reg = dst_reg` (log 25): a register with no value is drawn once for each operand. -/
theorem test_same_register_drawn_twice :
    regAfter (exec (.sub64X 0 0) caller) 0 = some (.value (Config.freeWord 0 - Config.freeWord 1)) := rfl

theorem witness_AddAndSubtract : caller.readReg (1 : Dst).castSucc = .ok (20, caller) ∧
    caller.readReg 2 = .ok (22, caller) := ⟨readable_operands.1, readable_operands.2.1⟩

/-- Read in either order. -/
theorem witness_MultiplyDivideModulo : caller.readReg (1 : Dst).castSucc = .ok (20, caller) ∧
    caller.readReg 2 = .ok (22, caller) := ⟨readable_operands.1, readable_operands.2.1⟩

theorem witness_OrAndXor : caller.readReg (1 : Dst).castSucc = .ok (20, caller) ∧
    caller.readReg 2 = .ok (22, caller) := ⟨readable_operands.1, readable_operands.2.1⟩

theorem witness_ShiftsAreMasked : caller.readReg (1 : Dst).castSucc = .ok (20, caller) ∧
    caller.readReg 2 = .ok (22, caller) := ⟨readable_operands.1, readable_operands.2.1⟩

/-- One state for each value of NEG_OPERAND. -/
theorem witness_NegateByParameter :
    caller.platform.variant.negOperand = .src ∧ caller.readReg 2 = .ok (22, caller) ∧
    ({ caller with platform := { rich with variant := negDst } } : State).platform.variant.negOperand = .dst ∧
    ({ caller with platform := { rich with variant := negDst } } : State).readReg (1 : Dst).castSucc =
      .ok (20, { caller with platform := { rich with variant := negDst } }) := ⟨rfl, rfl, rfl, rfl⟩

theorem witness_MoveCopies : caller.readReg 2 = .ok (22, caller) := readable_operands.2.1

theorem witness_ByteSwapsByHostOrder :
    caller.readReg (1 : Dst).castSucc = .ok (20, caller) ∧ caller.platform.variant.endian = .little ∧
    ({ caller with platform := on .big } : State).readReg (1 : Dst).castSucc =
      .ok (20, { caller with platform := on .big }) ∧
    ({ caller with platform := on .big } : State).platform.variant.endian = .big := ⟨rfl, rfl, rfl, rfl⟩

/-- The four statements on jumps ask for the same: a readable register, and a second one (R10 and R1 here). -/
theorem readable_jump_operands : caller.readReg 10 = .ok (0x11200, caller) ∧ caller.readReg 1 = .ok (20, caller) :=
  ⟨rfl, rfl⟩

theorem witness_JumpsOnEqualityAndBits :
    caller.readReg 10 = .ok (0x11200, caller) ∧ caller.readReg 1 = .ok (20, caller) := readable_jump_operands

theorem witness_JumpsOnUnsignedGreaterOrLess :
    caller.readReg 10 = .ok (0x11200, caller) ∧ caller.readReg 1 = .ok (20, caller) := readable_jump_operands

theorem witness_JumpsOnSignedGreaterAndUnsignedAtMost :
    caller.readReg 10 = .ok (0x11200, caller) ∧ caller.readReg 1 = .ok (20, caller) := readable_jump_operands

theorem witness_JumpsOnSignedLessAndAlways :
    caller.readReg 10 = .ok (0x11200, caller) ∧ caller.readReg 1 = .ok (20, caller) := readable_jump_operands

/-- The helper of P6 with its arguments, and the one called by BTF ID; a register at each end of each range; a write to
a granted byte that no later one goes to, and one outside; a rule that applies, and rules none of which does. -/
theorem witness_HelperCallReturns :
    (findHelper rich .byAddress 7).map (fun h => (h.reads, caller.helperOutcome h [20, 22])) =
      some ([0, 1], .returns 42 [(0x111ff, 9), (0x20000, 9)]) ∧
    caller.readRegs ([(0 : Fin 5), 1].map argReg) = .ok ([20, 22], caller) ∧
    (findHelper rich .byBtfId 123).map (fun h => (h.reads, caller.helperOutcome h [])) = some ([], .returns 5 []) ∧
    caller.readRegs [] = .ok ([], caller) ∧
    (1 : Reg).val = 1 ∧ (5 : Reg).val = 5 ∧ (6 : Reg).val = 6 ∧ (10 : Reg).val = 10 ∧
    ([(0x111ff, 9), (0x20000, 9)] : List (Word × Byte)) = [] ++ (0x111ff, 9) :: [(0x20000, 9)] ∧
    (0x20000 : Word) ≠ 0x111ff ∧ granted rich 0x111ff = true ∧ granted rich 0x20000 = false ∧
    (findHelper rich .byAddress 9).map Helper.behaviour = some (.relation []) ∧
    (findHelper rich .byBtfId 123).map Helper.behaviour = some (.relation [⟨.const 1, .returns (.const 5) []⟩]) ∧
    holds (caller.view [] caller.helperByte Config.helperAny) (.const 1) = true := by
  refine ⟨?_, rfl, ?_, rfl, rfl, rfl, rfl, rfl, rfl, ?_⟩ <;> decide +kernel

theorem witness_HelperCallFails :
    findHelper rich .byAddress 1 = none ∧ findHelper rich .byBtfId 7 = none ∧
    (findHelper rich .byAddress 8).map (fun h => (h.reads, caller.helperOutcome h [])) = some ([], .faults 3) ∧
    caller.readRegs [] = .ok ([], caller) := by
  refine ⟨?_, ?_, ?_, rfl⟩ <;> decide +kernel

/-- Depth 0 and depth 7, one below the bound. -/
theorem witness_LocalCallEnters :
    caller.frames.length < caller.platform.maxCallDepth ∧
    ({ caller with frames := List.replicate 7 ⟨0, .unspecified, .unspecified, .unspecified, .unspecified, 0⟩ } :
      State).frames.length < caller.platform.maxCallDepth := by
  decide +kernel

theorem witness_LocalCallAtTheBoundFaults :
    ({ caller with frames := List.replicate 8 ⟨0, .unspecified, .unspecified, .unspecified, .unspecified, 0⟩ } :
      State).frames.length = caller.platform.maxCallDepth := by
  decide +kernel

theorem witness_ExitReturnsOrEnds :
    State.reset.frames = [] ∧ State.reset.readReg 0 = .ok (0, State.reset) ∧
    callee.frames = [⟨3, .value 7, .unspecified, .unspecified, .unspecified, 0x11200⟩] := ⟨rfl, rfl, rfl⟩

/-- A call that enters, and the state it enters as the later state. -/
theorem witness_LocalCallPreservesSavedRegisters :
    caller.frames.length < caller.platform.maxCallDepth ∧
    ∃ t u : State, exec (.callLocal 5) caller = .next t ∧ u.frames = t.frames :=
  ⟨by decide +kernel, _, _, rfl, rfl⟩

/-- Past the top, misaligned, and both outcomes of the last check at the boundary of the first frame; the last address
at which a word ends at 2^64. -/
theorem witness_AccessChecksInOrder :
    2 ^ 64 < (0xfffffffffffffffd : Word).toNat + widthBytes .w ∧
    (0x111fa : Word).toNat + widthBytes .w ≤ 2 ^ 64 ∧ (0x111fa : Word).toNat % widthBytes .w ≠ 0 ∧
    (0xfffffffffffffffc : Word).toNat + widthBytes .w ≤ 2 ^ 64 ∧ (0xfffffffffffffffc : Word).toNat % widthBytes .w = 0 ∧
    checkAccess Platform.bare .read true 0x111fc .w = .ok () ∧
    checkAccess Platform.bare .write true 0x11200 .w = .error (.memoryFault 0x11200 .w .write) ∧
    checkAccess Platform.bare .read false 0x111fa .w = .ok () := by
  decide +kernel

theorem witness_AccessPastTheTopFaults :
    2 ^ 64 < (0xffffffffffffffff : Word).toNat + widthBytes .h ∧
    2 ^ 64 < (0xfffffffffffffff9 : Word).toNat + widthBytes .dw := by
  decide

theorem witness_MisalignedAccessesFault :
    (0xfffffffffffffffb : Word).toNat + widthBytes .w ≤ 2 ^ 64 ∧ (0xfffffffffffffffb : Word).toNat % widthBytes .w ≠ 0 ∧
    (1 : Word).toNat + widthBytes .h ≤ 2 ^ 64 ∧ (1 : Word).toNat % widthBytes .h ≠ 0 ∧
    caller.platform.misaligned = .fault ∧
    ({ caller with platform := { rich with misaligned := .allow } } : State).platform.misaligned = .allow := by
  decide +kernel

/-- A platform with a shared region of 16 bytes at 0x20000. -/
def sharing (m : MemoryModel) : Platform :=
  { Platform.bare with
    regions := ⟨0x20000, 16, true, true, true⟩ :: Platform.bare.regions
    memoryModel := m }

/-- Bytes with a value at both ends of a 64-bit datum, in a private and in the shared region. -/
def stored (p : Platform) : State :=
  { State.reset with
    platform := p
    regs := #v[.value 1, .value 0x111f8, .value 3, .unspecified, .unspecified, .unspecified, .unspecified, .unspecified,
      .unspecified, .unspecified]
    mem := Memory.writeAll (Memory.writeAll [] 0x111f8 [1, 0, 0, 0, 0, 0, 0, 8]) 0x20000 [7] }

/-- A memory model under which another agent may write 5 once to 0x20000, and nothing else: a load of one byte there
sees 5, or, if none has seen it yet, the program's own byte. -/
def writesFive : List AnswerRule :=
  [⟨.op .eq (.arg 0) (.const 0x20000), .const 5⟩,
    ⟨.op .and (.op .eq (.arg 0) (.const 0x20000)) (.op .eq (.wasAnswered (.arg 0)) (.const 0)), .byteAt (.arg 0)⟩]

/-- R66 item 4: both answers are allowed at first, and once the newer byte has been seen the older one is not. -/
theorem test_memory_model :
    (stored (sharing (.relation writesFive))).sharedAnswers writesFive 0x20000 1 = [5, 7] ∧
    ({ stored (sharing (.relation writesFive)) with draws := ⟨1, [(0x20000, 5)]⟩ } : State).seenBytes 0x20000 1 =
      some [5] ∧
    (stored (sharing (.relation writesFive))).seenBytes 0x20000 1 ≠ none ∧
    ({ stored (sharing (.relation writesFive)) with mem := [(0x20001, 4)] } : State).seenBytes 0x20001 1 = some [4] := by
  refine ⟨by decide +kernel, by decide +kernel, ?_, by decide +kernel⟩
  obtain ⟨v, -, h⟩ := seenBytes_answer (s := stored (sharing (.relation writesFive))) (a := 0x20000) (n := 1)
    (by decide +kernel) rfl (by decide +kernel)
  rw [h]; exact Option.some_ne_none _

/-- Each clause whose hypotheses are on the state: a private load, one whose rules allow nothing, a shared one with an
unconstrained model and one with a rule that applies; eight bytes with values (aligned, or without the first), and one
that has none on either treatment. What another agent wrote is a free choice of the model's, so no state fixes it. -/
theorem witness_ByteALoadSees :
    isShared Platform.bare 0x111f8 = false ∧
    ((List.range 8).map fun k => (stored Platform.bare).mem.read (0x111f8 + k)) =
      [some 1, some 0, some 0, some 0, some 0, some 0, some 0, some 8] ∧
    0x111f8 % 8 = 0 ∧ 0x111f9 % 4 ≠ 0 ∧ 0x111f7 % 2 ≠ 0 ∧
    ((List.range 8).all fun k => !isShared Platform.bare (0x111f7 + k)) = true ∧
    (sharing .noOtherWriter).memoryModel = .noOtherWriter ∧
    (sharing (.relation writesFive)).memoryModel = .relation writesFive ∧
    (stored (sharing (.relation writesFive))).sharedAnswers writesFive 0x20001 1 = [] ∧
    (stored Platform.bare).mem.read 0x111f7 = none ∧ Platform.bare.noValue = .draw ∧
    (stored strict).mem.read 0x111f7 = none ∧ strict.noValue = .fault ∧
    isShared (sharing .unconstrained) 0x20000 = true ∧ isShared (sharing .unconstrained) 0x2000f = true ∧
    (sharing .unconstrained).memoryModel = .unconstrained ∧
    isShared (sharing (.relation writesFive)) 0x20000 = true ∧
    holds ((stored (sharing (.relation writesFive))).view (loadArgs 0x20000 1)
      (stored (sharing (.relation writesFive))).ownByte Config.answerAny) (.op .eq (.arg 0) (.const 0x20000)) = true := by
  decide +kernel

/-- On a platform that does not draw, with a shared region: a byte with a value, or written by another agent, and one
with neither, whichever the free choice is. -/
theorem witness_ByteALoadSees_fault :
    let s := stored { sharing .unconstrained with noValue := .fault }
    s.platform.noValue = .fault ∧ s.platform.memoryModel = .unconstrained ∧ isShared s.platform 0x20000 = true ∧
    ((∃ b, (Config.otherAgent s.draws.count 0x20000).or (s.mem.read 0x20000) = some b)) ∧
    s.mem.read 0x20001 = none ∧
    (Config.otherAgent s.draws.count 0x20001 = none ∨ ∃ b, Config.otherAgent s.draws.count 0x20001 = some b) := by
  refine ⟨rfl, rfl, by decide +kernel, ?_, by decide +kernel, ?_⟩
  · show ∃ b, (Config.otherAgent 0 0x20000).or (some 7) = some b
    cases Config.otherAgent 0 0x20000 with
    | none => exact ⟨7, rfl⟩
    | some b => exact ⟨b, rfl⟩
  · show Config.otherAgent 0 0x20001 = none ∨ ∃ b, Config.otherAgent 0 0x20001 = some b
    cases Config.otherAgent 0 0x20001 with
    | none => exact .inl rfl
    | some b => exact .inr ⟨b, rfl⟩

/-- A load of eight bytes at the top of the first frame, in each byte order; a misaligned one. -/
theorem witness_LoadedValueIsItsBytes :
    (stored (on .little)).memRead 0x111f8 .dw = .ok (0x0800000000000001, { stored (on .little) with draws := ⟨1, []⟩ }) ∧
    (stored (on .big)).memRead 0x111f8 .dw = .ok (0x0100000000000008, { stored (on .big) with draws := ⟨1, []⟩ }) ∧
    (on .little).variant.endian = .little ∧ (on .big).variant.endian = .big ∧
    (stored { on .big with misaligned := .allow }).memRead 0x111fd .h =
      .ok (0, { stored { on .big with misaligned := .allow } with draws := ⟨2, []⟩ }) ∧
    (0x111fd : Word).toNat % widthBytes .h ≠ 0 ∧ (0x111f8 : Word).toNat % widthBytes .dw = 0 := by
  decide +kernel

theorem witness_StoredBytesAndNoOthers :
    (stored (on .little)).memWrite 0x111f8 .dw 5 = .ok ((stored (on .little)).storeValue 0x111f8 .dw 5) ∧
    (stored (on .big)).memWrite 0x11000 .b 5 = .ok ((stored (on .big)).storeValue 0x11000 .b 5) := by
  decide +kernel

/-- A private access, a shared one with no other writer, and a misaligned one. -/
theorem witness_LoadAfterStore :
    (stored Platform.bare).memWrite 0x111f8 .dw 5 = .ok ((stored Platform.bare).storeValue 0x111f8 .dw 5) ∧
    checkAccess Platform.bare .read (Platform.bare.misaligned == .fault) 0x111f8 .dw = .ok () ∧
    isShared Platform.bare (0x111f8 : Word).toNat = false ∧
    (stored (sharing .noOtherWriter)).memWrite 0x20000 .w 5 =
      .ok ((stored (sharing .noOtherWriter)).storeValue 0x20000 .w 5) ∧
    checkAccess (sharing .noOtherWriter) .read ((sharing .noOtherWriter).misaligned == .fault) 0x20000 .w = .ok () ∧
    (sharing .noOtherWriter).memoryModel = .noOtherWriter ∧
    (stored { Platform.bare with misaligned := .allow }).memWrite 0x111fd .h 5 =
      .ok ((stored { Platform.bare with misaligned := .allow }).storeValue 0x111fd .h 5) ∧
    checkAccess Platform.bare .read false 0x111fd .h = .ok () ∧ (0x111fd : Word).toNat % widthBytes .h ≠ 0 ∧
    ((List.range 2).all fun k => !isShared Platform.bare ((0x111fd : Word).toNat + k)) = true := by
  decide +kernel

/-- R1 holds 0x111f8; eight, four, two and one bytes there pass the checks and have values. -/
theorem witness_LoadsCompleteWithZeroExtension :
    (stored Platform.bare).readReg 1 = .ok (0x111f8, stored Platform.bare) ∧
    (0x111f8 : Word) + (0 : Off).signExtend 64 = 0x111f8 ∧
    checkAccess Platform.bare .read (Platform.bare.misaligned == .fault) 0x111f8 .w = .ok () ∧
    (stored Platform.bare).loadBytes (0x111f8 : Word).toNat 4 =
      some ([1, 0, 0, 0], { stored Platform.bare with draws := ⟨1, []⟩ }) ∧
    checkAccess Platform.bare .read (Platform.bare.misaligned == .fault) 0x111f8 .h = .ok () ∧
    (stored Platform.bare).loadBytes (0x111f8 : Word).toNat 2 =
      some ([1, 0], { stored Platform.bare with draws := ⟨1, []⟩ }) ∧
    checkAccess Platform.bare .read (Platform.bare.misaligned == .fault) 0x111f8 .b = .ok () ∧
    (stored Platform.bare).loadBytes (0x111f8 : Word).toNat 1 =
      some ([1], { stored Platform.bare with draws := ⟨1, []⟩ }) ∧
    checkAccess Platform.bare .read (Platform.bare.misaligned == .fault) 0x111f8 .dw = .ok () ∧
    (stored Platform.bare).loadBytes (0x111f8 : Word).toNat 8 =
      some ([1, 0, 0, 0, 0, 0, 0, 8], { stored Platform.bare with draws := ⟨1, []⟩ }) := by
  refine ⟨rfl, ?_⟩; decide +kernel

/-- A platform on which a misaligned load or store is performed. -/
def unaligned : Platform := { Platform.bare with misaligned := .allow }

/-- R59: an aligned half word is one access, a misaligned load one for each byte; it needs one region as a whole (log 12). -/
theorem test_misaligned_load :
    (stored unaligned).memRead 0x111fe .h = .ok (0x0800, { stored unaligned with draws := ⟨1, []⟩ }) ∧
    (stored unaligned).memRead 0x111fd .h = .ok (0, { stored unaligned with draws := ⟨2, []⟩ }) ∧
    (stored unaligned).memRead 0x111fb .w = .ok (0, { stored unaligned with draws := ⟨4, []⟩ }) ∧
    (stored unaligned).memRead 0x111ff .h = .error (.memoryFault 0x111ff .h .read) ∧
    (stored unaligned).memRead 0x111f9 .dw = .error (.memoryFault 0x111f9 .dw .read) := by
  decide +kernel

/-- R59 and R66: a misaligned load of shared memory asks the rules for each byte by itself. The rule for loads of one byte
at 0x20002 is consulted, the one for loads of two bytes at 0x20001 is not. -/
theorem test_misaligned_shared_load :
    let rules : List AnswerRule :=
      [⟨.op .and (.op .eq (.arg 0) (.const 0x20002)) (.op .eq (.arg 1) (.const 1)), .const 5⟩,
        ⟨.op .eq (.arg 1) (.const 2), .const 0xffff⟩]
    let s := { stored { sharing (.relation rules) with misaligned := .allow } with mem := [(0x20001, 4), (0x20002, 3)] }
    ((s.loadEach 0x20001 [0, 1]).map fun r => (r.1, r.2.draws)) =
      some ([(0x20001, 4), (0x20002, 5)], ⟨2, [(0x20002, 5), (0x20001, 4)]⟩) ∧
    ((s.loadEach 0x20001 [1, 0]).map fun r => (r.1, r.2.draws)) =
      some ([(0x20002, 5), (0x20001, 4)], ⟨2, [(0x20001, 4), (0x20002, 5)]⟩) ∧
    s.seenBytes 0x20002 2 = some [0xff, 0xff] := by
  decide +kernel

theorem witness_StoresComplete :
    (stored Platform.bare).readReg 1 = .ok (0x111f8, stored Platform.bare) ∧
    (stored Platform.bare).readReg 2 = .ok (3, stored Platform.bare) ∧
    checkAccess Platform.bare .write (Platform.bare.misaligned == .fault) (0x111f8 + (4 : Off).signExtend 64) .w = .ok () ∧
    checkAccess Platform.bare .write (Platform.bare.misaligned == .fault) (0x111f8 + (6 : Off).signExtend 64) .h = .ok () ∧
    checkAccess Platform.bare .write (Platform.bare.misaligned == .fault) (0x111f8 + (7 : Off).signExtend 64) .b = .ok () ∧
    checkAccess Platform.bare .write (Platform.bare.misaligned == .fault) (0x111f8 + (0xfff8 : Off).signExtend 64) .dw =
      .ok () := by
  refine ⟨rfl, rfl, ?_⟩; decide +kernel

/-- A store and the two bytes next to the ones it stores. -/
theorem witness_StoresTouchOnlyTheirBytes :
    storeTarget (.stxDw 1 2 0) = some (1, 0, .dw) ∧
    (stored Platform.bare).readReg 1 = .ok (0x111f8, stored Platform.bare) ∧
    pcAfter (exec (.stxDw 1 2 0) (stored Platform.bare)) = some 1 ∧
    0x111f7 < (effAddr 0x111f8 0).toNat ∧ (effAddr 0x111f8 0).toNat + widthBytes .dw ≤ 0x11200 := by
  refine ⟨rfl, rfl, ?_⟩; decide +kernel

/-- A platform with eight bytes at 0x20000 that may only be read. -/
def readOnly : Platform :=
  { Platform.bare with regions := ⟨0x20000, 8, true, false, false⟩ :: Platform.bare.regions }

/-- For each width an access that fails a check: past the frame, and for the atomic operations also the check for
writing alone. R10 as a source register. -/
theorem witness_DataAccessFaultsAreTaken :
    (stored readOnly).readReg 1 = .ok (0x111f8, stored readOnly) ∧
    (stored readOnly).readReg 2 = .ok (3, stored readOnly) ∧
    (stored readOnly).readReg (2 : Dst).castSucc = .ok (3, stored readOnly) ∧
    (stored readOnly).readReg 0 = .ok (1, stored readOnly) ∧
    (stored readOnly).readReg 10 = .ok (0x11200, stored readOnly) ∧
    checkAccess readOnly .read true (effAddr 0x111f8 8) .w = .error (.memoryFault 0x11200 .w .read) ∧
    checkAccess readOnly .read true (effAddr 0x111f8 8) .h = .error (.memoryFault 0x11200 .h .read) ∧
    checkAccess readOnly .read true (effAddr 0x111f8 8) .b = .error (.memoryFault 0x11200 .b .read) ∧
    checkAccess readOnly .read true (effAddr 0x111f8 8) .dw = .error (.memoryFault 0x11200 .dw .read) ∧
    checkAccess readOnly .write true (effAddr 0x111f8 8) .w = .error (.memoryFault 0x11200 .w .write) ∧
    checkAccess readOnly .write true (effAddr 0x111f8 8) .h = .error (.memoryFault 0x11200 .h .write) ∧
    checkAccess readOnly .write true (effAddr 0x111f8 8) .b = .error (.memoryFault 0x11200 .b .write) ∧
    checkAccess readOnly .write true (effAddr 0x111f8 8) .dw = .error (.memoryFault 0x11200 .dw .write) ∧
    checkAccess readOnly .read true 0x20000 .w = .ok () ∧
    checkAccess readOnly .write true 0x20000 .w = .error (.memoryFault 0x20000 .w .write) ∧
    checkAccess readOnly .read true 0x20000 .dw = .ok () ∧
    checkAccess readOnly .write true 0x20000 .dw = .error (.memoryFault 0x20000 .dw .write) := by
  refine ⟨rfl, rfl, rfl, rfl, rfl, ?_⟩; decide +kernel

/-- The other way to fault: for each width bytes of the frame that pass the checks and have no value, on a platform that
does not draw. -/
theorem witness_DataAccessFaultsAreTaken_noValue :
    (stored strict).loadFaults (effAddr 0x111f8 (-8)) .w (.memoryFault 0x111f0 .w .read) ∧
    (stored strict).loadFaults (effAddr 0x111f8 (-8)) .h (.memoryFault 0x111f0 .h .read) ∧
    (stored strict).loadFaults (effAddr 0x111f8 (-1)) .b (.memoryFault 0x111f7 .b .read) ∧
    (stored strict).loadFaults (effAddr 0x111f8 (-8)) .dw (.memoryFault 0x111f0 .dw .read) ∧
    (stored { strict with misaligned := .allow }).loadFaults (effAddr 0x111f8 (-1)) .h (.memoryFault 0x111f7 .h .read) ∧
    (stored strict).atomicFaults (effAddr 0x111f8 (-8)) .w (.memoryFault 0x111f0 .w .read) ∧
    (stored strict).atomicFaults (effAddr 0x111f8 (-8)) .dw (.memoryFault 0x111f0 .dw .read) := by
  unfold State.loadFaults State.atomicFaults; decide +kernel

/-- The state of `stored`: R1 = 0x111f8, R2 = 3, R0 = 1, the 64 bits at R1 readable, writable and with values. -/
theorem atomic_operands :
    (stored Platform.bare).readReg 1 = .ok (0x111f8, stored Platform.bare) ∧
    (stored Platform.bare).readReg 0 = .ok (1, stored Platform.bare) ∧
    (stored Platform.bare).readReg (2 : Dst).castSucc = .ok (3, stored Platform.bare) ∧
    (0x111f8 : Word) + (0 : Off).signExtend 64 = 0x111f8 ∧
    checkAccess Platform.bare .read true 0x111f8 .w = .ok () ∧
    checkAccess Platform.bare .write true 0x111f8 .w = .ok () ∧
    (stored Platform.bare).seenBytes (0x111f8 : Word).toNat 4 = some [1, 0, 0, 0] ∧
    checkAccess Platform.bare .read true 0x111f8 .dw = .ok () ∧
    checkAccess Platform.bare .write true 0x111f8 .dw = .ok () ∧
    (stored Platform.bare).seenBytes (0x111f8 : Word).toNat 8 = some [1, 0, 0, 0, 0, 0, 0, 8] := by
  refine ⟨rfl, rfl, rfl, ?_⟩; decide +kernel

/-- `atomic_operands` is the witness; here the operation it lets complete. -/
theorem witness_AtomicUpdatesComplete :
    bytesAfter (exec (.atomicAddDw 1 2 0) (stored Platform.bare)) 0x111f8 1 = [some 4] := by
  decide +kernel

/-- `atomic_operands` is the witness; here the operation it lets complete. -/
theorem witness_AtomicFetchesAndExchangesComplete :
    regAfter (exec (.atomicXchgW 1 2 0) (stored Platform.bare)) 2 = some (.value 1) := by
  decide +kernel

/-- `atomic_operands` with R0 = 1: equal at W; different at DW. And the other two: R0 = 2 at W, R0 the 64 bits at DW. -/
theorem witness_CompareAndExchangeCompletes :
    (assemble .little [1, 0, 0, 0]).setWidth 32 = (1 : Word).setWidth 32 ∧
    (assemble .little [1, 0, 0, 0]).setWidth 32 ≠ (2 : Word).setWidth 32 ∧
    assemble .little [1, 0, 0, 0, 0, 0, 0, 8] ≠ 1 ∧ assemble .little [1, 0, 0, 0, 0, 0, 0, 8] = 0x0800000000000001 := by
  decide

theorem witness_WideConstantsAndLookupsComplete :
    rich.mapByFd.lookup 3 = some 0x1000 ∧ rich.mapVal.lookup 0x1000 = some 0x2000 ∧
    rich.varAddr.lookup 3 = some 0x3000 ∧ rich.codeAddr.lookup (caller.pc, 3) = some 0x4000 ∧
    rich.mapByIdx.lookup 3 = some 0x1000 := by
  decide

theorem witness_UndefinedLookupsFault :
    rich.mapByFd.lookup 9 = none ∧ rich.mapByFd.lookup 4 = some 0x5000 ∧ rich.mapVal.lookup 0x5000 = none ∧
    rich.varAddr.lookup 9 = none ∧ rich.codeAddr.lookup (caller.pc, 9) = none ∧ rich.mapByIdx.lookup 9 = none ∧
    rich.mapByIdx.lookup 4 = some 0x5000 := by
  decide

/-- The four statements on what no instruction changes: an addition that completes, and a load that faults. -/
theorem exec_witness :
    (∃ t, exec (.add64X 1 2) caller = .next t) ∧ (∀ disp, Instr.add64X 1 2 ≠ .callLocal disp) ∧
    Instr.add64X 1 2 ≠ .exit ∧ (3 : Dst) ∉ registersWritten (.add64X 1 2) ∧ changesMemory (.add64X 1 2) = false ∧
    statusAfter (exec (.ldxW 1 10 0) caller) = some (.faulted (.memoryFault 0x11200 .w .read) 0) ∧
    caller.status = .running :=
  ⟨⟨_, rfl⟩, by simp, by simp, by decide, rfl, by decide +kernel, rfl⟩

theorem witness_NoInstructionChangesTheParameters : ∃ t, exec (.add64X 1 2) caller = .next t := exec_witness.1

theorem witness_OnlyCallsAndExitsMoveTheFramePointer :
    (∃ t, exec (.add64X 1 2) caller = .next t) ∧ (∀ disp, Instr.add64X 1 2 ≠ .callLocal disp) ∧
    Instr.add64X 1 2 ≠ .exit := ⟨exec_witness.1, exec_witness.2.1, exec_witness.2.2.1⟩

theorem witness_RegistersNotWrittenAreKept :
    (∃ t, exec (.add64X 1 2) caller = .next t) ∧ (3 : Dst) ∉ registersWritten (.add64X 1 2) :=
  ⟨exec_witness.1, exec_witness.2.2.2.1⟩

theorem witness_MemoryChangesOnlyAtStoresAndCalls :
    (∃ t, exec (.add64X 1 2) caller = .next t) ∧ changesMemory (.add64X 1 2) = false ∧ caller.status = .running ∧
    statusAfter (exec (.ldxW 1 10 0) caller) = some (.faulted (.memoryFault 0x11200 .w .read) 0) :=
  ⟨exec_witness.1, exec_witness.2.2.2.2.1, exec_witness.2.2.2.2.2.2, exec_witness.2.2.2.2.2.1⟩

end Sys2Proof.Tests
end

/-! PROOFS. The statements of the family on scope (spec/00_scope.md): register access, a step runs the decoded
instruction, a step always answers. -/

namespace Sys2Proof.Machine

/-! ## Reading and writing a register -/

/-- A register that holds no value reads as the next free value where the platform draws one (R36, log 5). -/
theorem readReg_of_draw {s : State} {r : Reg} (h : s.reg r = .unspecified) (hd : s.platform.noValue = .draw) :
    s.readReg r = .ok (Config.freeWord s.draws.count, { s with draws := s.draws.next }) := by
  simp [State.readReg, h, hd]

/-- A general register holds what was written to it. -/
theorem reg_writeReg_same (s : State) (d : Dst) (v : Word) : (s.writeReg d v).reg d.castSucc = .value v := by
  simp

/-- A write leaves what every other register holds, R10 among them. -/
theorem reg_writeReg_of_ne (s : State) {d : Dst} (v : Word) {r : Reg} (h : r ≠ d.castSucc) :
    (s.writeReg d v).reg r = s.reg r := by
  cases r using Fin.lastCases with
  | last => exact (reg_ten _).trans (reg_ten s).symm
  | cast e =>
    have hne : d.val ≠ e.val := fun hv => h (congrArg Fin.castSucc (Fin.ext hv.symm))
    simp [Vector.getElem_set_ne d.isLt e.isLt hne]

/-- Settles O22: the three outcomes of a read by what the register holds and what the platform does, then a write by
whether the register is the one written. -/
theorem registerAccess : Obligations.RegisterAccess := by
  refine ⟨fun s r => ⟨fun v => readReg_of_value, readReg_of_draw, readReg_of_none, reg_ten s⟩, fun s d v n => ?_⟩
  exact ⟨reg_writeReg_same s d v, fun r => reg_writeReg_of_ne s v, rfl, rfl⟩

/-! ## The branches of a step -/

/-- A step whose fetch answers an instruction runs it, and nothing is added around it. -/
theorem step_of_fetch_ok {s : State} {i : Instr} (hr : s.status = .running) (hc : s.configured = true)
    (hf : s.fetch = .ok i) : step s = exec i s := by
  simp [step, hr, hc, hf]

/-- A step whose fetch faults takes that fault. -/
theorem step_of_fetch_error {s : State} {c : Cause} (hr : s.status = .running) (hc : s.configured = true)
    (hf : s.fetch = .error c) : step s = .next (s.raise c) := by
  simp [step, hr, hc, hf]

/-- A running state whose configuration R404 does not allow is refused (log 7). -/
theorem step_of_malformed {s : State} (hr : s.status = .running) (hc : s.configured = false) :
    step s = .refused .malformedConfiguration := by
  simp [step, hr, hc]

/-- Where the bytes at `pc` decode, fetching answers the decoded instruction. -/
theorem fetch_of_decode {s : State} {i : Instr} {rest : List Byte} (h : s.fetches)
    (hd : decode s.platform.variant s.fetchBytes = .ok (i, rest)) : s.fetch = .ok i := by
  rw [fetch_of_fetches h, hd]

/-- Settles O12: inside the program fetching is decoding, and a step runs what was fetched. -/
theorem stepRunsTheDecodedInstruction : Obligations.StepRunsTheDecodedInstruction := by
  intro s i rest h hd
  have ⟨hr, hc, _⟩ := h
  exact step_of_fetch_ok hr hc (fetch_of_decode h hd)

/-! ## Every instruction answers -/

/-- A computation that settles answers a next state, whether it has its effect or takes its fault. -/
theorem exists_settle_eq_next (s : State) (e : Except Cause State) : ∃ t, settle s e = .next t := by
  cases e with
  | ok t => exact ⟨t, settle_ok s t⟩
  | error c => exact ⟨s.raise c, settle_error s c⟩

/-- A platform lookup answers a next state, defined or not. -/
theorem exists_loadLookup_eq_next (k : Nat) (imm : Imm) (dst : Dst) (found : Option Word) (s : State) :
    ∃ t, loadLookup k imm dst found s = .next t := by
  cases found with
  | some v => exact ⟨_, rfl⟩
  | none => exact ⟨_, rfl⟩

/-- EXIT answers a next state: at depth 0 it settles, above it it returns. -/
theorem exists_execExit_eq_next (s : State) : ∃ t, execExit s = .next t := by
  unfold execExit
  split
  · exact exists_settle_eq_next s _
  · exact ⟨_, rfl⟩

/-- A helper call answers a next state, or the helper does not return (R262, R266). -/
theorem callHelper_answers (kind : HelperKind) (id : BitVec 32) (s : State) :
    (∃ t, callHelper kind id s = .next t) ∨ callHelper kind id s = .fault (.helperDoesNotReturn kind id) := by
  unfold callHelper
  split
  · exact .inl ⟨_, rfl⟩
  · split
    · exact .inl ⟨_, rfl⟩
    · split
      · exact .inl ⟨_, rfl⟩
      · exact .inl ⟨_, rfl⟩
      · exact .inr rfl

/-- Every instruction answers a next state, or it is a helper call whose helper does not return. Most settle a
computation; apart stand the calls of helpers, EXIT, the lookups, and those that cannot fault: JA, LD_IMM64 and the MOV
of an immediate, which reads no register. -/
theorem exec_answers (i : Instr) (s : State) :
    (∃ t, exec i s = .next t) ∨
      ∃ (kind : HelperKind) (id : Imm), exec i s = .fault (.helperDoesNotReturn kind id) ∧
        (i = .callHelper id ∨ i = .callBtf id) := by
  cases i
  case callHelper id => exact (callHelper_answers .byAddress id s).imp_right fun h => ⟨_, id, h, .inl rfl⟩
  case callBtf id => exact (callHelper_answers .byBtfId id s).imp_right fun h => ⟨_, id, h, .inr rfl⟩
  case exit => exact .inl (exists_execExit_eq_next s)
  case ja => exact .inl ⟨_, rfl⟩
  case ldImm64 => exact .inl ⟨_, rfl⟩
  case ldMapFd | ldMapValueFd | ldVarAddr | ldCodeAddr | ldMapIdx | ldMapValueIdx =>
    exact .inl (exists_loadLookup_eq_next _ _ _ _ s)
  case mov32K | mov64K => exact .inl ⟨_, rfl⟩
  all_goals exact .inl (exists_settle_eq_next s _)

/-- A running state with an allowed configuration steps to a next state, or stands at a call of a helper that does not
return. -/
theorem step_answers_of_configured {s : State} (hr : s.status = .running) (hc : s.configured = true) :
    (∃ t, step s = .next t) ∨
      ∃ (kind : HelperKind) (id : Imm), step s = .fault (.helperDoesNotReturn kind id) ∧
        (s.fetch = .ok (.callHelper id) ∨ s.fetch = .ok (.callBtf id)) := by
  cases hf : s.fetch with
  | error c => exact .inl ⟨s.raise c, step_of_fetch_error hr hc hf⟩
  | ok i =>
    rw [step_of_fetch_ok hr hc hf]
    simpa only [Except.ok.injEq] using exec_answers i s

/-- Settles O16: a final status stays, a running one with an allowed configuration answers as the instruction fetched
does, and any other is refused. -/
theorem stepAlwaysAnswers : Obligations.StepAlwaysAnswers := by
  refine ⟨fun s h => ?_, fun s hc hr => step_of_malformed hr hc⟩
  by_cases hr : s.status = .running
  · exact step_answers_of_configured hr (h.resolve_right (not_not_intro hr))
  · exact .inl ⟨s, step_of_final hr⟩

end Sys2Proof.Machine

/-! PROOFS. The statements of the family on the state (spec/10_state.md): reset, what no instruction changes, the
registers an instruction keeps, the exit that matches a local call, the invariant, registers that hold no value, register
numbers, the bytes a load sees. -/

namespace Sys2Proof.Machine

/-! ## Reset -/

/-- Settles O17: each value is read off the reset state; the ten general registers are copies of one. -/
theorem resetValues : Obligations.ResetValues := by
  refine ⟨rfl, rfl, rfl, rfl, fun _ => rfl, fun r => ?_, rfl, rfl⟩
  simp [State.reset]

/-- Settles O19: memory and the call stack are empty, and R10 is the top of the first frame of the bare platform. -/
theorem resetKeepsTheInvariant : Obligations.ResetKeepsTheInvariant := by
  unfold Obligations.ResetKeepsTheInvariant
  decide

/-! ## What no instruction changes -/

/-- No effect changes the program or the platform. -/
theorem Effect.program_platform {i : Instr} {s t : State} (h : Effect i s t) :
    t.program = s.program ∧ t.platform = s.platform := by
  cases h with
  | enters disp hi h =>
    obtain ⟨-, -, -, -, -, -, -, hprogram, hplatform, -⟩ := enterLocal_ok h
    exact ⟨hprogram, hplatform⟩
  | ends v s1 hi hf hr h => subst h; rw [readReg_state hr]; exact ⟨rfl, rfl⟩
  | _ => subst_vars; exact ⟨rfl, rfl⟩

/-- Settles O57: by the effects an instruction can have. -/
theorem noInstructionChangesTheParameters : Obligations.NoInstructionChangesTheParameters :=
  fun _ _ _ h => (exec_next h).program_platform

/-- Every effect but those of a local call and of an exit leaves R10 and the call stack. -/
theorem Effect.r10_frames {i : Instr} {s t : State} (h : Effect i s t) (hcall : ∀ disp, i ≠ .callLocal disp)
    (hexit : i ≠ .exit) : t.r10 = s.r10 ∧ t.frames = s.frames := by
  cases h with
  | enters disp hi h => exact absurd hi (hcall disp)
  | leaves f rest hi hf h => exact absurd hi hexit
  | ends v s1 hi hf hr h => exact absurd hi hexit
  | _ => subst_vars; exact ⟨rfl, rfl⟩

/-- Settles O58: by the effects an instruction can have; the two that move R10 are excluded. -/
theorem onlyCallsAndExitsMoveTheFramePointer : Obligations.OnlyCallsAndExitsMoveTheFramePointer :=
  fun _ _ _ h hcall hexit => (exec_next h).r10_frames hcall hexit

/-! ## Registers an instruction does not write -/

/-- A helper that returns changes no general register but R0 to R5. -/
theorem afterHelper_reg_of_notMem (s : State) (r0 : Word) (ws : List (Word × Byte)) {r : Dst}
    (h : r ∉ ([0, 1, 2, 3, 4, 5] : List Dst)) : (s.afterHelper r0 ws).reg r.castSucc = s.reg r.castSucc := by
  rw [reg_castSucc, reg_castSucc, getElem_congr_coll (afterHelper_regs s r0 ws)]
  fin_cases r <;> simp_all

/-- A local call changes no general register but R0 and R6 to R9. -/
theorem enterLocal_reg_of_notMem {s t : State} {disp : Int} (hn : s.enterLocal disp = .ok t) {r : Dst}
    (h : r ∉ ([0, 6, 7, 8, 9] : List Dst)) : t.reg r.castSucc = s.reg r.castSucc := by
  obtain ⟨-, -, -, -, hregs, -⟩ := enterLocal_ok hn
  rw [reg_castSucc, reg_castSucc, getElem_congr_coll hregs]
  fin_cases r <;> simp_all

/-- A return changes no general register but R1 to R9. -/
theorem leaveLocal_reg_of_notMem (s : State) (f : Frame) (rest : List Frame) {r : Dst}
    (h : r ∉ ([1, 2, 3, 4, 5, 6, 7, 8, 9] : List Dst)) : (s.leaveLocal f rest).reg r.castSucc = s.reg r.castSucc := by
  obtain rfl : r = 0 := by revert r; decide
  exact (leaveLocal_reg s f rest).1

/-- An effect changes none of R0 to R9 outside the column of R24. -/
theorem Effect.reg_of_notMem {i : Instr} {s t : State} (h : Effect i s t) {r : Dst} (hr : r ∉ registersWritten i) :
    t.reg r.castSucc = s.reg r.castSucc := by
  have other {d : Dst} (hw : registersWritten i = [d]) (s' : State) (v : Word) :
      (s'.writeReg d v).reg r.castSucc = s'.reg r.castSucc :=
    reg_writeReg_of_ne s' v fun he => hr (by rw [hw, Fin.castSucc_injective _ he]; exact List.mem_singleton_self d)
  cases h with
  | faults c h => subst h; rfl
  | writes d n v k hw h => subst h; exact other hw { s with draws := k } v
  | moves p k h => subst h; rfl
  | stores b off wd a v s1 al k ht hb hc h => subst h; rfl
  | exchanges b off wd a v old s1 d k ht hw hb hc h =>
    subst h; exact other hw (State.storeValue { s with draws := k } (effAddr a off) wd v) old
  | compares d old k hw h => subst h; exact other hw { s with draws := k } old
  | helper k r0 ws hi h =>
    subst h
    refine afterHelper_reg_of_notMem { s with draws := k } r0 ws ?_
    obtain ⟨id, rfl⟩ | ⟨id, rfl⟩ := hi <;> exact hr
  | enters disp hi h => subst hi; exact enterLocal_reg_of_notMem h hr
  | leaves f rest hi hf h => subst hi h; exact leaveLocal_reg_of_notMem s f rest hr
  | ends v s1 hi hf hr0 h => subst h; exact reg_congr s _ _ (by rw [readReg_state hr0]) (by rw [readReg_state hr0])

/-- Settles O59: by the effects an instruction can have. -/
theorem registersNotWrittenAreKept : Obligations.RegistersNotWrittenAreKept :=
  fun _ _ _ _ h hr => (exec_next h).reg_of_notMem hr

/-! ## The exit that matches a local call -/

/-- A return through a record of what these registers held in `s` gives R6 to R10 back. -/
theorem leaveLocal_reg_saved (s u : State) (f : Frame) (rest : List Frame) (h6 : f.r6 = s.reg 6) (h7 : f.r7 = s.reg 7)
    (h8 : f.r8 = s.reg 8) (h9 : f.r9 = s.reg 9) (h10 : f.r10 = s.r10) {r : Reg} (hr : 6 ≤ r.val) :
    (u.leaveLocal f rest).reg r = s.reg r := by
  obtain ⟨-, -, e6, e7, e8, e9, e10⟩ := leaveLocal_reg u f rest
  obtain rfl | rfl | rfl | rfl | rfl : r = 6 ∨ r = 7 ∨ r = 8 ∨ r = 9 ∨ r = 10 := by
    revert hr; revert r; decide
  · exact e6.trans h6
  · exact e7.trans h7
  · exact e8.trans h8
  · exact e9.trans h9
  · rw [e10, h10, reg_ten]

/-- A local call that answers a next state below the depth bound entered: it did not fault. -/
theorem enterLocal_of_exec {s t : State} {disp : BitVec 32} (hd : s.frames.length < s.platform.maxCallDepth)
    (h : exec (.callLocal disp) s = .next t) : s.enterLocal disp.toInt = .ok t := by
  obtain ⟨u, hu⟩ := enterLocal_of disp.toInt hd
  have : settle s (s.enterLocal disp.toInt) = .next t := h
  rw [hu, settle_ok, Host.Outcome.next.injEq] at this
  rw [hu, this]

/-- EXIT above depth 0 returns through the newest record. -/
theorem exec_exit_of_cons {s : State} {f : Frame} {rest : List Frame} (h : s.frames = f :: rest) :
    exec .exit s = .next (s.leaveLocal f rest) := by
  show execExit s = _
  simp only [execExit, h]

/-- Settles O40: the call put R6 to R10 and the return slot on the call stack, and the exit takes them from there. -/
theorem localCallPreservesSavedRegisters : Obligations.LocalCallPreservesSavedRegisters := by
  intro s t u disp hdepth hcall hu
  obtain ⟨-, hframes, -⟩ := enterLocal_ok (enterLocal_of_exec hdepth hcall)
  rw [hframes] at hu
  exact ⟨_, exec_exit_of_cons hu, fun r hr => leaveLocal_reg_saved s u _ _ rfl rfl rfl rfl rfl hr, rfl, rfl,
    (leaveLocal_reg u _ _).1⟩

/-! ## The invariant -/

/-- The memory part of the invariant: the canonical form, every listed byte in a granted region (R33). -/
def MemoryOk (p : Platform) (m : Memory) : Prop := m.wf = true ∧ ∀ c ∈ m, granted p c.1 = true

/-- The call stack part of the invariant: the bound on the depth (R37), and the frame pointer of each depth, now and
after each return (R52). -/
def StackOk (p : Platform) (r10 : Word) (frames : List Frame) : Prop :=
  frames.length ≤ p.maxCallDepth ∧ r10 = frameTop p frames.length ∧ framesSaveTops p frames = true

/-- The invariant is its two parts. -/
theorem inv_iff (s : State) : s.inv = true ↔ MemoryOk s.platform s.mem ∧ StackOk s.platform s.r10 s.frames := by
  simp [State.inv, MemoryOk, StackOk, and_assoc]

variable {p : Platform} {m : Memory}

/-- Bytes written to an access that passed its checks lie in a region it was admitted to. -/
theorem MemoryOk.writeAll {k : Access} {al : Bool} {addr : Word} {wd : Width} (h : MemoryOk p m)
    (hc : checkAccess p k al addr wd = .ok ()) {bs : List Byte} (hl : bs.length = widthBytes wd) :
    MemoryOk p (m.writeAll addr.toNat bs) := by
  obtain ⟨hwf, hgranted⟩ := h
  obtain ⟨htop, -, hadmits⟩ := checkAccess_ok hc
  refine ⟨writeAll_wf hwf (by omega), mem_writeAll (P := fun x => granted p x = true) (fun x h1 h2 => ?_) hgranted⟩
  exact granted_of_admits hadmits h1 (by omega)

/-- A store that passed its checks. -/
theorem MemoryOk.storeValue {s : State} {k : Access} {al : Bool} {addr : Word} {wd : Width}
    (h : MemoryOk s.platform s.mem) (hc : checkAccess s.platform k al addr wd = .ok ()) (v : Word) :
    MemoryOk s.platform (s.storeValue addr wd v).mem :=
  h.writeAll hc (length_disassemble _ _ _)

/-- The writes of a helper, of which those outside the granted regions have no effect (R73). -/
theorem MemoryOk.applyWrites (h : MemoryOk p m) (ws : List (Word × Byte)) : MemoryOk p (m.applyWrites p ws) :=
  ⟨applyWrites_wf h.1, mem_applyWrites h.2⟩

/-- Bytes losing their values. -/
theorem MemoryOk.forget (h : MemoryOk p m) (lo hi : Nat) : MemoryOk p (m.forget lo hi) :=
  ⟨forget_wf h.1, fun c hc => h.2 c (List.mem_of_mem_filter hc)⟩

/-- A new record that holds the frame pointer of the depth it returns to, below the bound. -/
theorem StackOk.push {r10 : Word} {frames : List Frame} (h : StackOk p r10 frames)
    (hd : frames.length < p.maxCallDepth) {f : Frame} (hf : f.r10 = r10) :
    StackOk p (frameTop p (frames.length + 1)) (f :: frames) := by
  obtain ⟨-, hr10, hsaved⟩ := h
  exact ⟨hd, rfl, by simp [framesSaveTops, hsaved, hf, hr10]⟩

/-- The newest record gives back the frame pointer of the depth below. -/
theorem StackOk.pop {r10 : Word} {f : Frame} {frames : List Frame} (h : StackOk p r10 (f :: frames)) :
    StackOk p f.r10 frames := by
  obtain ⟨hdepth, -, hsaved⟩ := h
  simp only [framesSaveTops, Bool.and_eq_true, beq_iff_eq] at hsaved
  obtain ⟨htop, hrest⟩ := hsaved
  exact ⟨Nat.le_of_succ_le hdepth, htop, hrest⟩

/-- A local call gives the callee a frame with no values, and saves the caller's frame pointer (R263). -/
theorem enterLocal_keeps_inv {s t : State} {disp : Int} (hs : s.inv = true) (h : s.enterLocal disp = .ok t) :
    t.inv = true := by
  rw [inv_iff] at hs ⊢
  obtain ⟨hmem, hstack⟩ := hs
  obtain ⟨hdepth, hframes, hr10, hm, -, -, -, -, hplatform, -⟩ := enterLocal_ok h
  rw [hplatform, hm, hr10, hframes]
  exact ⟨hmem.forget _ _, hstack.push hdepth rfl⟩

/-- A return takes the caller's frame pointer from the record (R265). -/
theorem leaveLocal_keeps_inv {s : State} {f : Frame} {rest : List Frame} (hs : s.inv = true)
    (hf : s.frames = f :: rest) : (s.leaveLocal f rest).inv = true := by
  rw [inv_iff] at hs ⊢
  obtain ⟨hmem, hstack⟩ := hs
  rw [hf] at hstack
  exact ⟨hmem, hstack.pop⟩

/-- Every effect keeps the invariant: memory changes at stores and helpers, the call stack at calls and returns. -/
theorem Effect.keeps_inv {i : Instr} {s t : State} (h : Effect i s t) (hs : s.inv = true) : t.inv = true := by
  have ⟨hmem, hstack⟩ := (inv_iff s).1 hs
  cases h with
  | stores b off wd a v s1 al k ht hb hc h =>
    subst h
    exact (inv_iff _).2 ⟨MemoryOk.storeValue (s := { s with draws := k }) hmem hc v, hstack⟩
  | exchanges b off wd a v old s1 d k ht hw hb hc h =>
    subst h
    exact (inv_iff _).2 ⟨MemoryOk.storeValue (s := { s with draws := k }) hmem hc v, hstack⟩
  | helper k r0 ws hi h => subst h; exact (inv_iff _).2 ⟨hmem.applyWrites ws, hstack⟩
  | enters disp hi h => exact enterLocal_keeps_inv hs h
  | leaves f rest hi hf h => subst h; exact leaveLocal_keeps_inv hs hf
  | ends v s1 hi hf hr h => subst h; rw [readReg_state hr]; exact hs
  | faults c h => subst h; exact hs
  | moves p k h => subst h; exact hs
  | writes d n v k hw h => subst h; exact hs
  | compares d old k hw h => subst h; exact hs

/-- What a step that answers a next state did: nothing in a final state, else it took a fault of the fetch or ran the
instruction fetched. -/
theorem step_next {s t : State} (h : step s = .next t) :
    t = s ∨ (∃ c, t = s.raise c) ∨ ∃ i, exec i s = .next t := by
  unfold step at h
  split at h
  · split at h
    · split at h
      · next i _ => exact .inr (.inr ⟨i, h⟩)
      · next c _ => exact .inr (.inl ⟨c, (Host.Outcome.next.inj h).symm⟩)
    · cases h
  · exact .inl (Host.Outcome.next.inj h).symm
  · exact .inl (Host.Outcome.next.inj h).symm

/-- Settles O20: a final state stays, a fault changes only the status, and every effect of an instruction keeps both
parts of the invariant. -/
theorem stepKeepsTheInvariant : Obligations.StepKeepsTheInvariant := by
  intro s t hs h
  obtain rfl | ⟨c, rfl⟩ | ⟨i, h⟩ := step_next h
  · exact hs
  · exact hs
  · exact (exec_next h).keeps_inv hs

/-! ## Registers that hold no value -/

/-- Where the platform does not draw, a computation that reads these registers first, in this order, takes the fault of
the first of them that holds no value. -/
def ReadsFirst {α : Type} (s : State) (rs : List Reg) (e : Except Cause α) : Prop :=
  ∀ r, rs.find? (fun r => s.reg r == .unspecified) = some r → e = .error (.uninitialisedRegister r)

/-- The same of what an instruction begun in `s` comes to. -/
def FaultsFirst (s : State) (o : Outcome) (rs : List Reg) : Prop :=
  ∀ r, rs.find? (fun r => s.reg r == .unspecified) = some r → o = .next (s.raise (.uninitialisedRegister r))

/-- The register an operand reads, if it is one. -/
def operandRegs : Operand → List Reg
  | .imm _ => []
  | .reg r => [r]

section

variable {s : State} {rs : List Reg} {α : Type}

theorem ReadsFirst.nil {e : Except Cause α} : ReadsFirst s [] e := fun _ h => by cases h

theorem FaultsFirst.nil {o : Outcome} : FaultsFirst s o [] := fun _ h => by cases h

/-- A fault of the computation is the instruction's, taken in the state it began in (R360). -/
theorem ReadsFirst.settle {e : Except Cause State} (h : ReadsFirst s rs e) : FaultsFirst s (settle s e) rs :=
  fun r hr => by rw [h r hr, settle_error]

/-- A register is read, and what follows reads the others. -/
theorem ReadsFirst.readReg (hf : s.platform.noValue = .fault) {r : Reg} {k : Word × State → Except Cause α}
    (h : ∀ v, ReadsFirst s rs (k (v, s))) : ReadsFirst s (r :: rs) (s.readReg r >>= k) := by
  intro x hx
  cases hr : s.reg r with
  | unspecified =>
    simp only [hr, List.find?_cons, beq_self_eq_true, Option.some.injEq] at hx
    rw [readReg_of_none hr hf, error_bind, hx]
  | value v =>
    rw [readReg_of_value hr, ok_bind]
    exact h v x (by simpa [hr, List.find?_cons] using hx)

theorem ReadsFirst.operand64 (hf : s.platform.noValue = .fault) {o : Operand} {k : Word × State → Except Cause α}
    (h : ∀ v, ReadsFirst s rs (k (v, s))) : ReadsFirst s (operandRegs o ++ rs) (s.operand64 o >>= k) := by
  cases o with
  | imm i => exact h (immWord i)
  | reg r => exact .readReg hf h

/-- A register operand of 32 bits is read as a register, and its low half used. -/
theorem operand32_reg_bind (s : State) (r : Reg) (k : Half × State → Except Cause α) :
    s.operand32 (.reg r) >>= k = s.readReg r >>= fun p => k (low32 p.1, p.2) := by
  simp only [State.operand32]
  cases s.readReg r <;> rfl

theorem ReadsFirst.operand32 (hf : s.platform.noValue = .fault) {o : Operand} {k : Half × State → Except Cause α}
    (h : ∀ v, ReadsFirst s rs (k (v, s))) : ReadsFirst s (operandRegs o ++ rs) (s.operand32 o >>= k) := by
  cases o with
  | imm i => exact h i
  | reg r =>
    rw [operand32_reg_bind]
    exact .readReg hf fun v => h (low32 v)

/-- What follows the reads does not matter to a fault of theirs. -/
theorem ReadsFirst.bind {β : Type} {e : Except Cause α} (h : ReadsFirst s rs e) (k : α → Except Cause β) :
    ReadsFirst s rs (e >>= k) :=
  fun r hr => by rw [h r hr, error_bind]

theorem readReg_readsFirst (hf : s.platform.noValue = .fault) {r : Reg} : ReadsFirst s [r] (s.readReg r) := by
  simpa using ReadsFirst.readReg (k := pure) hf fun _ => .nil

theorem readRegs_readsFirst (hf : s.platform.noValue = .fault) : ∀ rs : List Reg, ReadsFirst s rs (s.readRegs rs)
  | [] => .nil
  | _ :: rs => .readReg hf fun _ => (readRegs_readsFirst hf rs).bind _

end

/-! ### The order of reading of each shape of instruction -/

section

variable {s : State} {dst : Dst} {base src r : Reg} {o : Operand} {off : Off} {imm : Imm} {wd : Width}
  (hf : s.platform.noValue = .fault)
include hf

theorem operand64_readsFirst {α : Type} (k : Word × State → Except Cause α) :
    ReadsFirst s (operandRegs o) (s.operand64 o >>= k) := by
  simpa using ReadsFirst.operand64 (rs := []) (o := o) (k := k) hf fun _ => .nil

theorem operand32_readsFirst {α : Type} (k : Half × State → Except Cause α) :
    ReadsFirst s (operandRegs o) (s.operand32 o >>= k) := by
  simpa using ReadsFirst.operand32 (rs := []) (o := o) (k := k) hf fun _ => .nil

theorem alu64_faultsFirst {f : Word → Word → Word} :
    FaultsFirst s (alu64 f dst o s) (dst.castSucc :: operandRegs o) :=
  (ReadsFirst.readReg hf fun _ => operand64_readsFirst hf _).settle

theorem alu32_faultsFirst {f : Half → Half → Half} :
    FaultsFirst s (alu32 f dst o s) (dst.castSucc :: operandRegs o) :=
  (ReadsFirst.readReg hf fun _ => operand32_readsFirst hf _).settle

theorem divide64_faultsFirst {f : Word → Word → Word} :
    FaultsFirst s (divide64 f dst o s) (operandRegs o ++ [dst.castSucc]) :=
  (ReadsFirst.operand64 hf fun _ => .readReg hf fun _ => .nil).settle

theorem divide32_faultsFirst {f : Half → Half → Half} :
    FaultsFirst s (divide32 f dst o s) (operandRegs o ++ [dst.castSucc]) :=
  (ReadsFirst.operand32 hf fun _ => .readReg hf fun _ => .nil).settle

theorem set64_faultsFirst {f : Word → Word} : FaultsFirst s (set64 f dst o s) (operandRegs o) :=
  (operand64_readsFirst hf _).settle

theorem set32_faultsFirst {f : Half → Half} : FaultsFirst s (set32 f dst o s) (operandRegs o) :=
  (operand32_readsFirst hf _).settle

theorem swapReg_faultsFirst {f : Word → Word} : FaultsFirst s (swapReg f dst s) [dst.castSucc] :=
  (ReadsFirst.readReg hf fun _ => .nil).settle

theorem condJump64_faultsFirst {cond : Word → Word → Bool} :
    FaultsFirst s (condJump64 cond base o off s) (base :: operandRegs o) :=
  (ReadsFirst.readReg hf fun _ => operand64_readsFirst hf _).settle

theorem condJump32_faultsFirst {cond : Half → Half → Bool} :
    FaultsFirst s (condJump32 cond base o off s) (base :: operandRegs o) :=
  (ReadsFirst.readReg hf fun _ => operand32_readsFirst hf _).settle

theorem loadReg_faultsFirst : FaultsFirst s (loadReg wd dst src off s) [src] :=
  (ReadsFirst.readReg hf fun _ => .nil).settle

theorem storeImm_faultsFirst : FaultsFirst s (storeImm wd base off imm s) [base] :=
  (ReadsFirst.readReg hf fun _ => .nil).settle

theorem storeReg_faultsFirst : FaultsFirst s (storeReg wd base src off s) [base, src] :=
  (ReadsFirst.readReg hf fun _ => .readReg hf fun _ => .nil).settle

theorem atomicUpdate_faultsFirst {f : Word → Word → Word} :
    FaultsFirst s (atomicUpdate wd f base src off s) [base, src] :=
  (ReadsFirst.readReg hf fun _ => .readReg hf fun _ => .nil).settle

theorem atomicFetch_faultsFirst {f : Word → Word → Word} :
    FaultsFirst s (atomicFetch wd f base dst off s) [base, dst.castSucc] :=
  (ReadsFirst.readReg hf fun _ => .readReg hf fun _ => .nil).settle

theorem atomicCompare_faultsFirst {view : Word → Word} :
    FaultsFirst s (atomicCompare wd view base src off s) [base, 0, src] :=
  (ReadsFirst.readReg hf fun _ => .readReg hf fun _ => .readReg hf fun _ => .nil).settle

theorem callHelper_faultsFirst (kind : HelperKind) (id : BitVec 32) :
    FaultsFirst s (callHelper kind id s) (helperReads s kind id) := by
  intro r hr
  unfold helperReads at hr
  unfold callHelper
  cases hh : findHelper s.platform kind id with
  | none => rw [hh] at hr; cases hr
  | some h =>
    rw [hh] at hr
    simp only [readRegs_readsFirst hf _ r hr]

theorem execExit_faultsFirst : FaultsFirst s (execExit s) (if s.frames = [] then [0] else []) := by
  intro r hr
  unfold execExit
  cases hfr : s.frames with
  | nil =>
    rw [hfr, if_pos rfl] at hr
    have h0 : s.readReg 0 = .error (.uninitialisedRegister r) :=
      readReg_readsFirst hf r hr
    simp only [h0]; rfl
  | cons f rest => rw [hfr, if_neg (List.cons_ne_nil f rest)] at hr; cases hr

end

/-- The registers NEG reads are those of the operand it negates (R146). -/
theorem operandRegs_negOperand (v : Variant) (dst : Dst) (o : Operand) :
    operandRegs (negOperand v dst o) = if v.negOperand = .src then operandRegs o else [dst.castSucc] := by
  unfold negOperand
  cases v.negOperand <;> rfl

theorem neg64_faultsFirst {s : State} (hf : s.platform.noValue = .fault) {dst : Dst} {o : Operand} :
    FaultsFirst s (neg64 dst o s) (if s.platform.variant.negOperand = .src then operandRegs o else [dst.castSucc]) := by
  rw [← operandRegs_negOperand]; exact set64_faultsFirst hf

theorem neg32_faultsFirst {s : State} (hf : s.platform.noValue = .fault) {dst : Dst} {o : Operand} :
    FaultsFirst s (neg32 dst o s) (if s.platform.variant.negOperand = .src then operandRegs o else [dst.castSucc]) := by
  rw [← operandRegs_negOperand]; exact set32_faultsFirst hf

/-- Every instruction reads its registers first, in the order of R24. -/
theorem exec_faultsFirst {s : State} (hf : s.platform.noValue = .fault) (i : Instr) :
    FaultsFirst s (exec i s) (registersRead s i) := by
  cases i
  case add64K | add64X | sub64K | sub64X | mul64K | mul64X | or64K | or64X | and64K | and64X | lsh64K | lsh64X |
      rsh64K | rsh64X | xor64K | xor64X | arsh64K | arsh64X => exact alu64_faultsFirst hf
  case add32K | add32X | sub32K | sub32X | mul32K | mul32X | or32K | or32X | and32K | and32X | lsh32K | lsh32X |
      rsh32K | rsh32X | xor32K | xor32X | arsh32K | arsh32X => exact alu32_faultsFirst hf
  case div64K | div64X | mod64K | mod64X => exact divide64_faultsFirst hf
  case div32K | div32X | mod32K | mod32X => exact divide32_faultsFirst hf
  case neg64K | neg64X => exact neg64_faultsFirst hf
  case neg32K | neg32X => exact neg32_faultsFirst hf
  case mov64X => exact set64_faultsFirst hf
  case mov32X => exact set32_faultsFirst hf
  case le16 | le32 | le64 | be16 | be32 | be64 => exact swapReg_faultsFirst hf
  case jeq64K | jeq64X | jgt64K | jgt64X | jge64K | jge64X | jset64K | jset64X | jne64K | jne64X | jsgt64K | jsgt64X |
      jsge64K | jsge64X | jlt64K | jlt64X | jle64K | jle64X | jslt64K | jslt64X | jsle64K | jsle64X =>
    exact condJump64_faultsFirst hf
  case jeq32K | jeq32X | jgt32K | jgt32X | jge32K | jge32X | jset32K | jset32X | jne32K | jne32X | jsgt32K | jsgt32X |
      jsge32K | jsge32X | jlt32K | jlt32X | jle32K | jle32X | jslt32K | jslt32X | jsle32K | jsle32X =>
    exact condJump32_faultsFirst hf
  case callHelper id => exact callHelper_faultsFirst hf .byAddress id
  case callBtf id => exact callHelper_faultsFirst hf .byBtfId id
  case exit => exact execExit_faultsFirst hf
  case ldxW | ldxH | ldxB | ldxDw => exact loadReg_faultsFirst hf
  case stW | stH | stB | stDw => exact storeImm_faultsFirst hf
  case stxW | stxH | stxB | stxDw => exact storeReg_faultsFirst hf
  case atomicAddW | atomicOrW | atomicAndW | atomicXorW | atomicAddDw | atomicOrDw | atomicAndDw | atomicXorDw =>
    exact atomicUpdate_faultsFirst hf
  case atomicFetchAddW | atomicFetchOrW | atomicFetchAndW | atomicFetchXorW | atomicXchgW | atomicFetchAddDw |
      atomicFetchOrDw | atomicFetchAndDw | atomicFetchXorDw => exact atomicFetch_faultsFirst hf
  case atomicXchgDw => exact atomicFetch_faultsFirst (f := fun _ v => v) hf
  case atomicCmpxchgW | atomicCmpxchgDw => exact atomicCompare_faultsFirst hf
  case mov64K | mov32K | ja | callLocal | ldImm64 | ldMapFd | ldMapValueFd | ldVarAddr | ldCodeAddr | ldMapIdx |
      ldMapValueIdx => exact .nil

/-- Settles O23: every instruction reads its registers before it does anything else. -/
theorem unreadableRegistersFault : Obligations.UnreadableRegistersFault :=
  fun i _ r hf hr => exec_faultsFirst hf i r hr

/-! ## Register numbers -/

/-- The operations of an atomic instruction that write the register `src_reg` names: the four with the fetch modifier,
and the exchange (R303, R304). -/
def fetchingSelectors : List Imm := [0x01, 0x41, 0x51, 0xa1, 0xe1]

/-- What decoding a slot whose opcode is not 0x18 checks of its register numbers (R22, R23, R111): both name registers,
but for a source that is a call kind, and none that is written is R10. -/
structure RegistersInRange (f : Fields) : Prop where
  dst_le : f.dst.toNat ≤ 10
  src_le : f.opcode.toNat ≠ 0x85 → f.src.toNat ≤ 10
  dst_lt : f.opcode.toNat % 8 = 4 ∨ f.opcode.toNat % 8 = 7 ∨ f.opcode.toNat % 8 = 1 → f.dst.toNat < 10
  src_lt : f.opcode.toNat = 0xc3 ∨ f.opcode.toNat = 0xdb → f.imm ∈ fetchingSelectors → f.src.toNat < 10

section

variable {f g : Fields} {i : Instr} {v : Variant}

/-- A register that may be written has a number below 10. -/
theorem regField_dst_lt (d : Dst) : (regField d).toNat < 10 := by revert d; decide

/-- A register has a number up to 10. -/
theorem regField_reg_le (r : Reg) : (regField r).toNat ≤ 10 := by revert r; decide

/-- The fields of an instruction that writes the register its `dst_reg` names. -/
theorem RegistersInRange.of_written (h : f.dst.toNat < 10 ∧ f.src.toNat ≤ 10)
    (ho : f.opcode.toNat ≠ 0xc3 ∧ f.opcode.toNat ≠ 0xdb) : RegistersInRange f :=
  ⟨h.1.le, fun _ => h.2, fun _ => h.1, fun ha => (ha.elim ho.1 ho.2).elim⟩

/-- The fields of an instruction of a class that does not write the register its `dst_reg` names. -/
theorem RegistersInRange.of_read (h : f.dst.toNat ≤ 10 ∧ f.src.toNat ≤ 10)
    (ho : f.opcode.toNat % 8 = 2 ∨ f.opcode.toNat % 8 = 3 ∨ f.opcode.toNat % 8 = 5 ∨ f.opcode.toNat % 8 = 6)
    (ha : f.opcode.toNat ≠ 0xc3 ∧ f.opcode.toNat ≠ 0xdb) : RegistersInRange f :=
  ⟨h.1, fun _ => h.2, fun hc => by omega, fun hi => (hi.elim ha.1 ha.2).elim⟩

/-! ### What the decoder of each shape checks -/

theorem decodeAluK_range {mk : Dst → Imm → Instr} (h : decodeAluK mk f = .ok i) :
    f.dst.toNat < 10 ∧ f.src.toNat ≤ 10 := by
  obtain ⟨d, hf, -⟩ := decodeAluK_ok h
  rw [hf]; exact ⟨regField_dst_lt d, Nat.zero_le _⟩

theorem decodeAluX_range {mk : Dst → Reg → Instr} (h : decodeAluX mk f = .ok i) :
    f.dst.toNat < 10 ∧ f.src.toNat ≤ 10 := by
  obtain ⟨d, r, hf, -⟩ := decodeAluX_ok h
  rw [hf]; exact ⟨regField_dst_lt d, regField_reg_le r⟩

theorem decodeNegK_range {mk : Dst → Imm → Instr} (h : decodeNegK v mk f = .ok i) :
    f.dst.toNat < 10 ∧ f.src.toNat ≤ 10 := by
  unfold decodeNegK at h
  split at h
  · obtain ⟨_, -, h⟩ := decoded_bind h
    exact decodeAluK_range h
  · exact decodeAluK_range h

theorem decodeNegX_range {mk : Dst → Reg → Instr} (h : decodeNegX v mk f = .ok i) :
    f.dst.toNat < 10 ∧ f.src.toNat ≤ 10 := by
  unfold decodeNegX at h
  split at h
  · cases h
  · exact decodeAluX_range h

theorem decodeSwap_range {m16 m32 m64 : Dst → Instr} (h : decodeSwap m16 m32 m64 f = .ok i) :
    f.dst.toNat < 10 ∧ f.src.toNat ≤ 10 := by
  obtain ⟨d, ⟨-, hf⟩ | ⟨-, hf⟩ | ⟨-, hf⟩⟩ := decodeSwap_ok h <;>
    · rw [hf]; exact ⟨regField_dst_lt d, Nat.zero_le _⟩

theorem decodeLdx_range {mk : Dst → Reg → Off → Instr} (h : decodeLdx mk f = .ok i) :
    f.dst.toNat < 10 ∧ f.src.toNat ≤ 10 := by
  obtain ⟨d, r, hf, -⟩ := decodeLdx_ok h
  rw [hf]; exact ⟨regField_dst_lt d, regField_reg_le r⟩

theorem decodeJumpK_range {mk : Reg → Imm → Off → Instr} (h : decodeJumpK mk f = .ok i) :
    f.dst.toNat ≤ 10 ∧ f.src.toNat ≤ 10 := by
  obtain ⟨d, hf, -⟩ := decodeJumpK_ok h
  rw [hf]; exact ⟨regField_reg_le d, Nat.zero_le _⟩

theorem decodeJumpX_range {mk : Reg → Reg → Off → Instr} (h : decodeJumpX mk f = .ok i) :
    f.dst.toNat ≤ 10 ∧ f.src.toNat ≤ 10 := by
  obtain ⟨d, r, hf, -⟩ := decodeJumpX_ok h
  rw [hf]; exact ⟨regField_reg_le d, regField_reg_le r⟩

theorem decodeSt_range {mk : Reg → Off → Imm → Instr} (h : decodeSt mk f = .ok i) :
    f.dst.toNat ≤ 10 ∧ f.src.toNat ≤ 10 := by
  obtain ⟨d, hf, -⟩ := decodeSt_ok h
  rw [hf]; exact ⟨regField_reg_le d, Nat.zero_le _⟩

theorem decodeStx_range {mk : Reg → Reg → Off → Instr} (h : decodeStx mk f = .ok i) :
    f.dst.toNat ≤ 10 ∧ f.src.toNat ≤ 10 := by
  obtain ⟨d, r, hf, -⟩ := decodeStx_ok h
  rw [hf]; exact ⟨regField_reg_le d, regField_reg_le r⟩

theorem decodeJa_range (h : decodeJa f = .ok i) : f.dst.toNat ≤ 10 ∧ f.src.toNat ≤ 10 := by
  obtain ⟨_, hd, h⟩ := decoded_bind h
  obtain ⟨_, hs, -⟩ := decoded_bind h
  simp [zero_of_requireZero hd, zero_of_requireZero hs]

theorem decodeExit_range (h : decodeExit f = .ok i) : f.dst.toNat ≤ 10 ∧ f.src.toNat ≤ 10 := by
  obtain ⟨_, hd, h⟩ := decoded_bind h
  obtain ⟨_, hs, -⟩ := decoded_bind h
  simp [zero_of_requireZero hd, zero_of_requireZero hs]

/-- The source of a call is its kind; the destination is zero. -/
theorem decodeCall_range (h : decodeCall v f = .ok i) (ho : f.opcode.toNat = 0x85) : RegistersInRange f := by
  obtain ⟨_, hd, -⟩ := decoded_bind h
  have hd : f.dst.toNat = 0 := by rw [zero_of_requireZero hd]; rfl
  exact ⟨by omega, fun hne => absurd ho hne, fun hc => by omega, fun ha => by omega⟩

/-- The fields of an atomic operation. -/
theorem RegistersInRange.of_atomic (h : f.dst.toNat ≤ 10 ∧ f.src.toNat ≤ 10)
    (hs : f.imm ∈ fetchingSelectors → f.src.toNat < 10) (ho : f.opcode.toNat = 0xc3 ∨ f.opcode.toNat = 0xdb) :
    RegistersInRange f :=
  ⟨h.1, fun _ => h.2, fun hc => by omega, fun _ => hs⟩

theorem decodeAtomic_range {mk : Reg → Reg → Off → Instr} (h : decodeAtomic mk f = .ok i) {k : Nat}
    (hk : f.imm.toNat = k) (hn : BitVec.ofNat 32 k ∉ fetchingSelectors)
    (ho : f.opcode.toNat = 0xc3 ∨ f.opcode.toNat = 0xdb) : RegistersInRange f := by
  obtain ⟨d, r, hf, -⟩ := decodeAtomic_ok h
  refine .of_atomic ?_ (fun hi => absurd (eq_ofNat_of_toNat hk ▸ hi) hn) ho
  rw [hf]; exact ⟨regField_reg_le d, regField_reg_le r⟩

theorem decodeAtomicFetch_range {mk : Reg → Dst → Off → Instr} (h : decodeAtomicFetch mk f = .ok i)
    (ho : f.opcode.toNat = 0xc3 ∨ f.opcode.toNat = 0xdb) : RegistersInRange f := by
  obtain ⟨d, r, hf, -⟩ := decodeAtomicFetch_ok h
  have hs : f.src.toNat < 10 := by rw [hf]; exact regField_dst_lt r
  refine .of_atomic ⟨?_, hs.le⟩ (fun _ => hs) ho
  rw [hf]; exact regField_reg_le d

theorem decodeAtomicW_range (h : decodeAtomicW f = .ok i) (ho : f.opcode.toNat = 0xc3) : RegistersInRange f := by
  unfold decodeAtomicW at h
  split at h
  case h_11 => cases h
  case h_5 | h_6 | h_7 | h_8 | h_9 => exact decodeAtomicFetch_range h (.inl ho)
  all_goals next hk => exact decodeAtomic_range h hk (by decide) (.inl ho)

theorem decodeAtomicDW_range (h : decodeAtomicDW f = .ok i) (ho : f.opcode.toNat = 0xdb) : RegistersInRange f := by
  unfold decodeAtomicDW at h
  split at h
  case h_11 => cases h
  case h_5 | h_6 | h_7 | h_8 | h_9 => exact decodeAtomicFetch_range h (.inr ho)
  all_goals next hk => exact decodeAtomic_range h hk (by decide) (.inr ho)

/-- What decodes has its register numbers in range: by opcode, each by the shape of its operands. -/
theorem decodeBasic_inRange (h : decodeBasic v f = .ok i) : RegistersInRange f := by
  unfold decodeBasic at h
  split at h <;> rename_i ho
  all_goals first
    | with_reducible exact .of_written (decodeAluK_range h) (by omega)
    | with_reducible exact .of_written (decodeAluX_range h) (by omega)
    | with_reducible exact .of_written (decodeLdx_range h) (by omega)
    | with_reducible exact .of_written (decodeSwap_range h) (by omega)
    | with_reducible exact .of_written (decodeNegK_range h) (by omega)
    | with_reducible exact .of_written (decodeNegX_range h) (by omega)
    | with_reducible exact .of_read (decodeJumpK_range h) (by omega) (by omega)
    | with_reducible exact .of_read (decodeJumpX_range h) (by omega) (by omega)
    | with_reducible exact .of_read (decodeSt_range h) (by omega) (by omega)
    | with_reducible exact .of_read (decodeStx_range h) (by omega) (by omega)
    | with_reducible exact .of_read (decodeJa_range h) (by omega) (by omega)
    | with_reducible exact .of_read (decodeExit_range h) (by omega) (by omega)
    | with_reducible exact decodeCall_range h ho
    | with_reducible exact decodeAtomicW_range h ho
    | with_reducible exact decodeAtomicDW_range h ho
    | cases h

/-! ### The two slots of opcode 0x18 -/

/-- A decoding that goes on with the register written has its number below 10. -/
theorem toNat_lt_of_decodeDst_bind {n : BitVec 4} {k : Dst → Decoded Instr} (h : decodeDst n >>= k = .ok i) :
    n.toNat < 10 := by
  obtain ⟨d, hd, -⟩ := decoded_bind h
  rw [regField_of_decodeDst hd]
  exact regField_dst_lt d

/-- Every subtype writes the register `dst_reg` names. -/
theorem decodeWide_dst_lt (h : decodeWide f g = .ok i) : f.dst.toNat < 10 := by
  obtain ⟨_, -, h⟩ := decoded_bind h
  dsimp only at h
  split at h
  · split at h
    case h_1 | h_3 | h_7 => exact toNat_lt_of_decodeDst_bind h
    case h_8 => cases h
    all_goals
      obtain ⟨_, -, h⟩ := decoded_bind h
      exact toNat_lt_of_decodeDst_bind h
  · cases h

/-- Two slots are enough for a wide instruction. -/
theorem decodeWide_ne (f g : Fields) : decodeWide f g ≠ .error .truncated := by
  have ret : ∀ mk : Dst → Instr, (do return mk (← decodeDst f.dst) : Decoded Instr) ≠ .error .truncated :=
    fun _ => bind_ne_truncated (decodeDst_ne _) fun _ => by simp [pure, Except.pure]
  refine bind_ne_truncated (requireZero_ne _ _) fun _ => ?_
  dsimp only
  split
  · split
    case h_1 | h_3 | h_7 => exact ret _
    case h_8 => simp
    all_goals exact bind_ne_truncated (requireZero_ne _ _) fun _ => ret _
  · exact fun h => by cases h

end

/-! ### Reserved encodings at `pc` -/

section

variable {s : State}

/-- Opcode 0x18 with a slot after it decodes by the fields of the two. -/
theorem decode_of_wide (h : s.fetches) (ho : s.slotHere.opcode = 0x18) (h2 : s.pc + 1 < s.program.length) :
    ∃ g, decode s.platform.variant s.fetchBytes = (decodeWide s.slotHere g).map fun i => (i, []) := by
  obtain ⟨-, -, h0, h1⟩ := h
  obtain ⟨g, hg, -⟩ := slotFields_slotBytes s.platform.variant.endian (slotAt s.program (s.pc.toNat + 1)) []
  refine ⟨g, ?_⟩
  rw [decode, slotFields_fetchBytes h0 h1]
  simp only [if_pos ho, if_pos h2, hg]

/-- A slot that does not decode, and is not too short, is an illegal instruction (R362). -/
theorem step_illegal_of_decode {e : DecodeError} (h : s.fetches) (he : e ≠ .truncated)
    (hd : decode s.platform.variant s.fetchBytes = .error e) :
    ∃ second, step s = .next (s.raise (.illegalInstruction (slotAt s.program s.pc.toNat) second)) := by
  have hf : s.fetch = .error s.illegalHere := by
    rw [fetch_of_fetches h, hd]
    cases e <;> first | rfl | exact absurd rfl he
  obtain ⟨hr, hc, -⟩ := h
  exact ⟨_, step_of_fetch_error hr hc hf⟩

/-- A slot whose opcode is not 0x18 and whose register numbers are out of range is an illegal instruction. -/
theorem step_illegal_of_basic (h : s.fetches) (ho : s.slotHere.opcode ≠ 0x18) (hn : ¬ RegistersInRange s.slotHere) :
    ∃ second, step s = .next (s.raise (.illegalInstruction (slotAt s.program s.pc.toNat) second)) := by
  have hd := decode_of_basic h ho
  cases hb : decodeBasic s.platform.variant s.slotHere with
  | ok i => exact absurd (decodeBasic_inRange hb) hn
  | error e =>
    rw [hb] at hd
    exact step_illegal_of_decode h (fun he => decodeBasic_ne _ _ (he ▸ hb)) hd

/-- A wide instruction that would write no register of R0 to R9 is an illegal instruction. -/
theorem step_illegal_of_wide (h : s.fetches) (ho : s.slotHere.opcode = 0x18) (h2 : s.pc + 1 < s.program.length)
    (hn : 10 ≤ s.slotHere.dst.toNat) :
    ∃ second, step s = .next (s.raise (.illegalInstruction (slotAt s.program s.pc.toNat) second)) := by
  obtain ⟨g, hd⟩ := decode_of_wide h ho h2
  cases hw : decodeWide s.slotHere g with
  | ok i => exact absurd (decodeWide_dst_lt hw) (Nat.not_lt.2 hn)
  | error e =>
    rw [hw] at hd
    exact step_illegal_of_decode h (fun he => decodeWide_ne _ _ (he ▸ hw)) hd

end

/-- The class of an opcode is its remainder modulo 8 (R105). -/
theorem toNat_mod_eight_of_class {op : BitVec 8} {c : BitVec 3} (h : op.extractLsb' 0 3 = c) :
    op.toNat % 8 = c.toNat := by
  rw [← h]; simp

/-- Settles O10: an opcode other than 0x18 by the checks of its shape, 0x18 by its destination alone. -/
theorem wrongRegisterNumbersAreIllegal : Obligations.WrongRegisterNumbersAreIllegal := by
  intro s h h2 hbad
  by_cases ho : s.slotHere.opcode = 0x18
  · refine step_illegal_of_wide h ho (h2 ho) ?_
    obtain hd | ⟨hne, -⟩ | ⟨hd, -⟩ | ⟨-, ha | ha, -⟩ := hbad
    · exact hd.le
    · exact absurd ho hne
    · rw [hd]; decide
    · rw [ho] at ha; cases ha
    · rw [ho] at ha; cases ha
  · refine step_illegal_of_basic h ho fun hr => ?_
    obtain hd | ⟨-, hcall, hs⟩ | ⟨hd, hc⟩ | ⟨hs, ha, hi⟩ := hbad
    · exact absurd hr.dst_le (Nat.not_le.2 hd)
    · exact absurd (hr.src_le fun hn => hcall (eq_ofNat_of_toNat hn)) (Nat.not_le.2 hs)
    · have hlt := hr.dst_lt (hc.imp toNat_mod_eight_of_class (.imp toNat_mod_eight_of_class fun hc =>
        toNat_mod_eight_of_class (hc.resolve_right ho)))
      rw [hd] at hlt
      exact absurd hlt (by decide)
    · have hlt := hr.src_lt (ha.imp (congrArg BitVec.toNat) (congrArg BitVec.toNat)) hi
      rw [hs] at hlt
      exact absurd hlt (by decide)

/-! ## The bytes a load sees -/

section

variable {s : State} {a n : Nat}

/-- The program's own byte where memory holds one. -/
theorem ownByte_of_read {b : Byte} (h : s.mem.read a = some b) : s.ownByte a = some b := by
  simp [State.ownByte, h]

/-- The program's own byte where the platform draws: the one memory holds, else a free one (R52). -/
theorem ownByte_of_draw (hd : s.platform.noValue = .draw) (a : Nat) :
    s.ownByte a = some ((s.mem.read a).getD (Config.freeByte s.draws.count a)) := by
  cases h : s.mem.read a <;> simp [State.ownByte, h, hd]

/-- The program's own byte where the platform does not draw: the one memory holds, if it holds one. -/
theorem ownByte_of_fault (hf : s.platform.noValue = .fault) (a : Nat) : s.ownByte a = s.mem.read a := by
  cases h : s.mem.read a <;> simp [State.ownByte, h, hf]

/-- A shared byte of which nothing is known: another agent's, else the program's own. -/
theorem openByte_eq (s : State) (a : Nat) :
    s.openByte a = (Config.otherAgent s.draws.count a).or (s.ownByte a) := by
  cases h : Config.otherAgent s.draws.count a <;> simp [State.openByte, h]

/-- Bytes looked up together, as a function of the offset. -/
theorem bytesFrom_range {look : Nat → Option Byte} {f : Nat → Byte} (h : ∀ k, look (a + k) = some (f k)) (n : Nat) :
    bytesFrom look a n = some ((List.range n).map f) := by
  have := bytesFrom_of (look := look) (a := a) (bs := (List.range n).map f) fun k hk => by simp [h k]
  simpa using this

/-- Where none of the rules of `MEMORY_MODEL` applies, they allow no answer. -/
theorem sharedAnswers_eq_nil {rules : List AnswerRule}
    (h : ∀ r ∈ rules, holds (s.view (loadArgs a n) s.ownByte Config.answerAny) r.condition = false) :
    s.sharedAnswers rules a n = [] := by
  refine List.eq_nil_iff_forall_not_mem.2 fun w hw => ?_
  obtain ⟨r, hr, hholds, -⟩ := mem_allowedAnswers.1 hw
  rw [h r hr] at hholds
  cases hholds

/-- A load of bytes that memory holds, where it sees the program's own. -/
theorem seenBytes_of_read (hown : s.seenBytes a n = bytesFrom s.ownByte a n) {bs : List Byte} (hl : bs.length = n)
    (hbs : ∀ k (h : k < bs.length), s.mem.read (a + k) = some bs[k]) : s.seenBytes a n = some bs := by
  subst hl
  rw [hown]
  exact bytesFrom_of fun k hk => ownByte_of_read (hbs k hk)

/-- A load that meets a byte with no value, where it sees the program's own and the platform does not draw. -/
theorem seenBytes_of_read_none (hown : s.seenBytes a n = bytesFrom s.ownByte a n) (hf : s.platform.noValue = .fault)
    {k : Nat} (hk : k < n) (hnone : s.mem.read (a + k) = none) : s.seenBytes a n = none := by
  rw [hown]
  exact bytesFrom_none hk (by rw [ownByte_of_fault hf, hnone])

/-- A load from a shared region with an unconstrained `MEMORY_MODEL` asks for each byte by itself. -/
theorem seenBytes_open (hs : isShared s.platform a = true) (hm : s.platform.memoryModel = .unconstrained) :
    s.seenBytes a n = bytesFrom s.openByte a n := by
  simp [State.seenBytes, hs, hm]

/-- Where the platform draws, a load sees some bytes. -/
theorem exists_seenBytes_of_draw (hd : s.platform.noValue = .draw) (a n : Nat) : ∃ bs, s.seenBytes a n = some bs := by
  have hown : ∃ bs, bytesFrom s.ownByte a n = some bs :=
    ⟨_, bytesFrom_range (fun k => ownByte_of_draw hd (a + k)) n⟩
  cases hs : isShared s.platform a with
  | false => rw [seenBytes_own (.inl hs)]; exact hown
  | true =>
    cases hm : s.platform.memoryModel with
    | unconstrained =>
      rw [seenBytes_open hs hm]
      exact ⟨_, bytesFrom_range (fun k => by rw [openByte_eq, ownByte_of_draw hd, Option.or_some]) n⟩
    | relation rules =>
      by_cases hr : s.sharedAnswers rules a n = []
      · rw [seenBytes_own (.inr ⟨rules, hm, hr⟩)]; exact hown
      · obtain ⟨v, -, hv⟩ := seenBytes_answer hs hm hr
        exact ⟨_, hv⟩

/-- What a load in a shared region with rules sees is the answer of one whose condition holds, if there is one. -/
theorem exists_rule_of_seenBytes {rules : List AnswerRule} (hs : isShared s.platform a = true)
    (hm : s.platform.memoryModel = .relation rules)
    (hr : ∃ r ∈ rules, holds (s.view (loadArgs a n) s.ownByte Config.answerAny) r.condition = true) :
    ∃ r ∈ rules, holds (s.view (loadArgs a n) s.ownByte Config.answerAny) r.condition = true ∧
      s.seenBytes a n = some (disassemble s.platform.variant.endian n
        (evalTerm (s.view (loadArgs a n) s.ownByte Config.answerAny) [] r.answer)) := by
  obtain ⟨r, hmem, hholds⟩ := hr
  have hne : s.sharedAnswers rules a n ≠ [] := List.ne_nil_of_mem (mem_allowedAnswers.2 ⟨r, hmem, hholds, rfl⟩)
  obtain ⟨v, hv, hseen⟩ := seenBytes_answer hs hm hne
  obtain ⟨q, hq, hholds', rfl⟩ := mem_allowedAnswers.1 hv
  exact ⟨q, hq, hholds', hseen⟩

/-! ### Loads that are not aligned -/

/-- Separate loads whose bytes do not depend on the model's record see those bytes. -/
theorem loadEach_of_seen {f : Nat → Byte} : ∀ {ks : List Nat} {s : State},
    (∀ k ∈ ks, ∀ d, ({ s with draws := d } : State).seenBytes (a + k) 1 = some [f k]) →
    ∃ t, s.loadEach a ks = some (ks.map fun k => (a + k, f k), t)
  | [], s, _ => ⟨s, rfl⟩
  | k :: ks, s, h => by
    have hb : s.seenBytes (a + k) 1 = some [f k] := h k List.mem_cons_self s.draws
    obtain ⟨t, ht⟩ := loadEach_of_seen (ks := ks) (s := s.noteLoad (a + k) [f k]) fun k' hk d =>
      h k' (List.mem_cons_of_mem k hk) d
    exact ⟨t, by simp [State.loadEach, hb, ht]⟩

/-- One byte that cannot be seen, whatever the model's record, is enough for none. -/
theorem loadEach_none {k : Nat} {ks : List Nat} (hk : k ∈ ks)
    (h : ∀ d, ({ s with draws := d } : State).seenBytes (a + k) 1 = none) : s.loadEach a ks = none := by
  induction ks generalizing s with
  | nil => cases hk
  | cons j ks ih =>
    refine Option.eq_none_iff_forall_ne_some.2 fun ⟨cs, t⟩ hl => ?_
    obtain ⟨b, cs', hb, hrest, -⟩ := loadEach_cons hl
    rcases List.mem_cons.1 hk with rfl | hk
    · have hnone : s.seenBytes (a + k) 1 = none := h s.draws
      rw [hnone] at hb
      cases hb
    · rw [ih (s := s.noteLoad (a + j) [b]) hk fun d => h d] at hrest
      cases hrest

/-- The byte listed for an address that is among those loaded. -/
theorem lookup_map_add {f : Nat → Byte} {k : Nat} : ∀ {ks : List Nat}, k ∈ ks →
    (ks.map fun j => (a + j, f j)).lookup (a + k) = some (f k)
  | j :: ks, hk => by
    by_cases hjk : k = j
    · subst hjk; simp
    · have hne : (a + k == a + j) = false := by simpa using hjk
      rw [List.map_cons, List.lookup_cons, hne]
      exact lookup_map_add ((List.mem_cons.1 hk).resolve_left hjk)

theorem mem_accessOrder {k : Nat} : k ∈ s.accessOrder a n ↔ k < n := by
  rw [(accessOrder_perm s a n).mem_iff, List.mem_range]

/-- A load sees as many bytes as it asks for, aligned or not. -/
theorem loadBytes_length {t : State} {bs : List Byte} (h : s.loadBytes a n = some (bs, t)) : bs.length = n := by
  by_cases ha : a % n = 0
  · simp only [loadBytes_aligned ha, Option.map_eq_some_iff, Prod.mk.injEq] at h
    obtain ⟨_, hseen, rfl, -⟩ := h
    exact seenBytes_length hseen
  · obtain ⟨cs, -, rfl⟩ := loadBytes_apart ha h
    simp

/-- A misaligned load, where the platform draws. -/
theorem exists_loadBytes_of_draw (ha : a % n ≠ 0) (hd : s.platform.noValue = .draw) :
    ∃ bs t, s.loadBytes a n = some (bs, t) := by
  obtain ⟨cs, t, h⟩ := loadEach_answers (a := a) (ks := s.accessOrder a n) (s := s) fun k _ d => by
    obtain ⟨bs, hbs⟩ := exists_seenBytes_of_draw (s := { s with draws := d }) hd (a + k) 1
    obtain ⟨b, rfl⟩ := List.length_eq_one_iff.1 (seenBytes_length hbs)
    exact ⟨b, hbs⟩
  simp [State.loadBytes, ha, h]

/-- A misaligned load whose bytes can each be seen, whatever the model's record. -/
theorem loadBytes_of_seen (ha : a % n ≠ 0) {bs : List Byte} (hl : bs.length = n)
    (h : ∀ k (hk : k < bs.length), ∀ d, ({ s with draws := d } : State).seenBytes (a + k) 1 = some [bs[k]]) :
    ∃ t, s.loadBytes a n = some (bs, t) := by
  subst hl
  obtain ⟨t, ht⟩ := loadEach_of_seen (a := a) (f := fun k => bs.getD k 0) (ks := s.accessOrder a bs.length) (s := s)
    fun k hk d => by
      have hk := mem_accessOrder.1 hk
      rw [h k hk d, List.getD_eq_getElem _ _ hk]
  refine ⟨t, ?_⟩
  simp only [State.loadBytes, if_neg ha, ht, Option.map_some, Option.some.injEq, Prod.mk.injEq, and_true]
  refine List.ext_getElem (by simp) fun k h1 hk => ?_
  rw [List.getElem_map, List.getElem_range, lookup_map_add (mem_accessOrder.2 hk), Option.getD_some,
    List.getD_eq_getElem _ _ hk]

/-- A misaligned load one of whose bytes cannot be seen, whatever the model's record. -/
theorem loadBytes_none (ha : a % n ≠ 0) {k : Nat} (hk : k < n)
    (h : ∀ d, ({ s with draws := d } : State).seenBytes (a + k) 1 = none) : s.loadBytes a n = none := by
  simp [State.loadBytes, ha, loadEach_none (mem_accessOrder.2 hk) h]

/-- Where no other agent writes, or none of the bytes is shared, each separate load sees the program's own byte. -/
theorem seenBytes_apart_own
    (h : s.platform.memoryModel = .noOtherWriter ∨ ∀ k, k < n → isShared s.platform (a + k) = false) {k : Nat}
    (hk : k < n) (d : Draws) :
    ({ s with draws := d } : State).seenBytes (a + k) 1 = bytesFrom ({ s with draws := d } : State).ownByte (a + k) 1 :=
  seenBytes_own (h.elim (fun hm => .inr ⟨[], hm, rfl⟩) fun hs => .inl (hs k hk))

end

/-- Settles O44: one access by what `MEMORY_MODEL` says of its region, then plain loads by whether they are aligned. -/
theorem byteALoadSees : Obligations.ByteALoadSees := by
  intro s a n
  refine ⟨fun _ => seenBytes_length, fun h => ?_, fun hs hm => ?_, fun rules => exists_rule_of_seenBytes,
    fun bs t h => ⟨loadBytes_length h, loadBytes_draws h⟩, loadBytes_aligned, fun ha =>
    ⟨exists_loadBytes_of_draw ha, fun h => ?_⟩⟩
  · have hown : s.seenBytes a n = bytesFrom s.ownByte a n :=
      seenBytes_own (h.imp_right fun ⟨rules, hm, hr⟩ => ⟨rules, hm, sharedAnswers_eq_nil hr⟩)
    refine ⟨fun _ hl => seenBytes_of_read hown hl, fun hd => ?_, fun hf ⟨_, hk, hnone⟩ =>
      seenBytes_of_read_none hown hf hk hnone⟩
    rw [hown, bytesFrom_range fun k => ownByte_of_draw hd (a + k)]
  · rw [seenBytes_open hs hm]
    refine ⟨fun hd => bytesFrom_range (fun k => ?_) n, fun hf => ⟨fun bs hl hbs => ?_, fun ⟨k, hk, ho, hr⟩ => ?_⟩⟩
    · rw [openByte_eq, ownByte_of_draw hd, Option.or_some]
    · subst hl
      exact bytesFrom_of fun k hk => by rw [openByte_eq, ownByte_of_fault hf, hbs k hk]
    · exact bytesFrom_none hk (by rw [openByte_eq, ownByte_of_fault hf, ho, hr]; rfl)
  · refine ⟨fun bs hl hbs => loadBytes_of_seen ha hl fun k hk d => ?_, fun hf ⟨k, hk, hnone⟩ =>
      loadBytes_none ha hk fun d => ?_⟩
    · refine seenBytes_of_read (seenBytes_apart_own h (hl ▸ hk) d) rfl fun j hj => ?_
      obtain rfl : j = 0 := by simpa using hj
      exact hbs k hk
    · exact seenBytes_of_read_none (seenBytes_apart_own h hk d) hf Nat.one_pos hnone

end Sys2Proof.Machine

/-! PROOFS. The statements of the family on memory (spec/20_memory.md): the stack frames, the checks of an access, loads
and stores as bytes, what an instruction can change of memory, the faults of a data access. -/

namespace Sys2Proof.Machine

/-! ## The stack frames -/

section

variable {p : Platform} {d a n : Nat}

/-- What R404 demands of the frame at each depth up to the bound: it lies above address 0, and is one of the regions. -/
theorem frame_of_platformOk (h : platformOk p = true) (hd : d ≤ p.maxCallDepth) :
    p.stackSize ≤ (frameTop p d).toNat ∧ frameRegion p.stackSize (frameTop p d) ∈ p.regions := by
  simp only [platformOk, Bool.and_eq_true, decide_eq_true_eq, List.all_eq_true, List.contains_iff_mem] at h
  obtain ⟨⟨⟨-, hlen⟩, hframes⟩, -⟩ := h
  have hlt : d < p.frameTops.length := by omega
  have hmem : frameTop p d ∈ p.frameTops := by
    rw [frameTop, List.getD_eq_getElem _ _ hlt]
    exact List.getElem_mem hlt
  exact hframes _ hmem

/-- Two records of an allowed configuration that share a byte are one record. -/
theorem region_eq_of_common_byte (h : platformOk p = true) {r q : Region} (hr : r ∈ p.regions) (hq : q ∈ p.regions)
    {x : Nat} (hrx : regionCovers r x 1 = true) (hqx : regionCovers q x 1 = true) : r = q := by
  simp only [platformOk, Bool.and_eq_true] at h
  obtain ⟨⟨⟨⟨-, hpair⟩, -⟩, -⟩, -⟩ := h
  have hcommon : ∀ r q : Region, regionCovers r x 1 = true → regionCovers q x 1 = true →
      (r == q || regionsDisjoint r q) = true → r = q := fun r q hr hq hrel => by
    rw [Bool.or_eq_true, beq_iff_eq] at hrel
    exact hrel.resolve_right fun hdis => regionsDisjoint_iff.1 hdis x ⟨hr, hq⟩
  obtain heq | hrel | hrel := pairwiseRegions_mem hpair r hr q hq
  · exact heq
  · exact hcommon r q hrx hqx hrel
  · exact (hcommon q r hqx hrx hrel).symm

/-- A frame holds the bytes from `STACK_SIZE` below its top up to its top. -/
theorem regionCovers_frameRegion {size : Nat} {top : Word} (hsize : size ≤ top.toNat) (h1 : top.toNat - size ≤ a)
    (h2 : a + n ≤ top.toNat) : regionCovers (frameRegion size top) a n = true := by
  have htop := top.isLt
  have hlen : (BitVec.ofNat 64 size).toNat = size := by rw [BitVec.toNat_ofNat]; omega
  have hbase : (BitVec.ofNat 64 (top.toNat - size)).toNat = top.toNat - size := by rw [BitVec.toNat_ofNat]; omega
  simp only [regionCovers, frameRegion, Bool.and_eq_true, decide_eq_true_eq, hbase, hlen]
  omega

/-- Settles O21: the frame is one of the regions, and no other record holds a byte of it. -/
theorem framesArePrivateMemory : Obligations.FramesArePrivateMemory := by
  intro p d a n k hok hd h1 h2
  obtain ⟨hsize, hmem⟩ := frame_of_platformOk hok hd
  refine ⟨List.any_eq_true.2 ⟨_, hmem, ?_⟩, fun hn => List.any_eq_false.2 fun r hr hshared => ?_⟩
  · rw [regionCovers_frameRegion hsize h1 h2]
    cases k <;> rfl
  · rw [Bool.and_eq_true] at hshared
    obtain ⟨hs, hcovers⟩ := hshared
    have hframe := regionCovers_frameRegion (n := 1) hsize h1 (by omega)
    rw [region_eq_of_common_byte hok hr hmem hcovers hframe] at hs
    cases hs

end

/-! ## The checks of an access -/

section

variable {p : Platform} {k : Access} {al : Bool} {addr : Word} {wd : Width}

/-- An access past the top of the address space (R72). -/
theorem checkAccess_past_top (h : 2 ^ 64 < addr.toNat + widthBytes wd) :
    checkAccess p k al addr wd = .error (.memoryFault addr wd k) := by
  rw [checkAccess, if_pos h]

/-- A misaligned access where that faults (R59). -/
theorem checkAccess_misaligned (h : addr.toNat + widthBytes wd ≤ 2 ^ 64) (hal : al = true)
    (hm : addr.toNat % widthBytes wd ≠ 0) : checkAccess p k al addr wd = .error (.misaligned addr wd) := by
  rw [checkAccess, if_neg (Nat.not_lt.2 h), if_pos (by simp [hal, hm])]

/-- An access that passes the first two checks is decided by the regions (R51). -/
theorem checkAccess_eq_ite_admits (h : addr.toNat + widthBytes wd ≤ 2 ^ 64)
    (hal : al = false ∨ addr.toNat % widthBytes wd = 0) : checkAccess p k al addr wd =
      if admits p k addr.toNat (widthBytes wd) then .ok () else .error (.memoryFault addr wd k) := by
  rw [checkAccess, if_neg (Nat.not_lt.2 h), if_neg (by rcases hal with h | h <;> simp [h])]

/-- A region permits an access if it has the permission of its kind. -/
theorem regionPermits_iff {r : Region} : regionPermits r k = true ↔
    (k = .read → r.readable = true) ∧ (k = .write → r.writable = true) := by
  cases k <;> simp [regionPermits]

/-- An access is admitted if one region holds all its bytes with the permission. -/
theorem admits_iff {a n : Nat} : admits p k a n = true ↔ ∃ r ∈ p.regions, r.base.toNat ≤ a ∧
    a + n ≤ r.base.toNat + r.len.toNat ∧ (k = .read → r.readable = true) ∧ (k = .write → r.writable = true) := by
  simp only [admits, List.any_eq_true, Bool.and_eq_true, regionCovers, decide_eq_true_eq, regionPermits_iff, and_assoc]

end

/-- Settles O41: one clause for each check, in their order. -/
theorem accessChecksInOrder : Obligations.AccessChecksInOrder := by
  intro p k al addr wd
  refine ⟨checkAccess_past_top, checkAccess_misaligned, fun h hal => ?_⟩
  rw [checkAccess_eq_ite_admits h hal, ← admits_iff]
  cases admits p k addr.toNat (widthBytes wd) <;> simp

/-- Settles O42: the first check of each of the three fails. -/
theorem accessPastTheTopFaults : Obligations.AccessPastTheTopFaults := by
  intro s addr wd h
  refine ⟨?_, fun v => ?_, fun update => ?_⟩
  · rw [State.memRead, checkAccess_past_top h, error_bind]
  · rw [State.memWrite, checkAccess_past_top h, error_bind]
  · rw [State.atomically, checkAccess_past_top h, error_bind]

/-! ## The bytes of a value in memory -/

/-- Where byte `k` of a value of `n` bytes, from the least significant, stands among its bytes at rising addresses
(R54, R55). -/
def byteIndex (e : Endian) (n k : Nat) : Nat :=
  match e with
  | .little => k
  | .big => n - 1 - k

@[simp] theorem byteIndex_little (n k : Nat) : byteIndex .little n k = k := rfl
@[simp] theorem byteIndex_big (n k : Nat) : byteIndex .big n k = n - 1 - k := rfl

theorem byteIndex_lt (e : Endian) {n k : Nat} (h : k < n) : byteIndex e n k < n := by
  cases e <;> simp only [byteIndex_little, byteIndex_big] <;> omega

/-- The bytes a value is stored as. -/
theorem getElem?_disassemble (e : Endian) (v : Word) {n k : Nat} (h : k < n) :
    (disassemble e n v)[byteIndex e n k]? = some (v.extractLsb' (8 * k) 8) := by
  rw [← getElem?_valueBytes n v k h]
  cases e with
  | little => rfl
  | big =>
    simp only [disassemble, byteIndex_big]
    rw [List.getElem?_reverse (by rw [length_valueBytes]; omega), length_valueBytes]
    congr 1
    omega

/-- The bytes a value is loaded from. -/
theorem getElem?_eq_extractLsb'_assemble (e : Endian) {bs : List Byte} (hl : bs.length ≤ 8) {k : Nat}
    (h : k < bs.length) : bs[byteIndex e bs.length k]? = some ((assemble e bs).extractLsb' (8 * k) 8) := by
  cases e with
  | little =>
    simp only [assemble, byteIndex_little]
    rw [extractLsb'_bytesValue bs k hl h, List.getElem?_eq_getElem h]
  | big =>
    have hr : k < bs.reverse.length := by rwa [List.length_reverse]
    simp only [assemble, byteIndex_big]
    rw [extractLsb'_bytesValue bs.reverse k (by rwa [List.length_reverse]) hr, ← List.getElem?_reverse h,
      List.getElem?_eq_getElem hr]

/-- A value loaded from `n` bytes is below 2^(8n). -/
theorem assemble_lt (e : Endian) (bs : List Byte) : (assemble e bs).toNat < 2 ^ (8 * bs.length) := by
  cases e with
  | little => exact bytesValue_lt bs
  | big => simpa only [assemble, List.length_reverse] using bytesValue_lt bs.reverse

/-- No access is wider than a register. -/
theorem widthBytes_le (wd : Width) : widthBytes wd ≤ 8 := by cases wd <;> decide

/-! ## Loads as bytes -/

section

variable {s t : State} {a n : Nat} {bs : List Byte}

/-- The record of an aligned load of shared bytes: each is the latest answer at its address (log 9). -/
theorem lookup_answers_noteLoad (hs : isShared s.platform a = true) {k : Nat} (hk : k < bs.length) :
    (s.noteLoad a bs).draws.answers.lookup (a + k) = bs[k]? := by
  rw [noteLoad_answers, if_pos hs, lookup_cellsFrom hk, List.getElem?_eq_getElem hk]

/-- A misaligned load passes through a state for each byte, in some order, and sees each as a load of it by itself
(R59). -/
theorem loadBytes_apart_steps (ha : a % n ≠ 0) (h : s.loadBytes a n = some (bs, t)) :
    ∃ (order : List Nat) (u : Nat → State), order.Perm (List.range n) ∧ u 0 = s ∧ u n = t ∧
      ∀ i k, order[i]? = some k → ∃ b, bs[k]? = some b ∧ (u i).seenBytes (a + k) 1 = some [b] ∧
        u (i + 1) = (u i).noteLoad (a + k) [b] := by
  obtain ⟨cs, hcs, rfl⟩ := loadBytes_apart ha h
  obtain ⟨u, h0, hlast, hu⟩ := loadEach_steps hcs
  have hperm := accessOrder_perm s a n
  rw [hperm.length_eq, List.length_range] at hlast
  refine ⟨_, u, hperm, h0, hlast, fun i k hik => ?_⟩
  obtain ⟨hi, rfl⟩ := List.getElem?_eq_some_iff.1 hik
  obtain ⟨b, hseen, hnext, hlookup⟩ := hu i hi
  have hk := mem_accessOrder.1 (List.getElem_mem hi)
  refine ⟨b, ?_, hseen, hnext⟩
  rw [List.getElem?_map, List.getElem?_range hk, Option.map_some, hlookup (hperm.nodup_iff.2 List.nodup_range),
    Option.getD_some]

end

/-- Settles O45: the value is the bytes put together, an aligned load is one access, a misaligned one a chain of them. -/
theorem loadedValueIsItsBytes : Obligations.LoadedValueIsItsBytes := by
  intro s t addr wd v h
  obtain ⟨-, bs, hload, rfl⟩ := memRead_ok h
  have hl := loadBytes_length hload
  have hbytes : ∀ k, k < widthBytes wd → bs[byteIndex s.platform.variant.endian (widthBytes wd) k]? =
      some ((assemble s.platform.variant.endian bs).extractLsb' (8 * k) 8) := fun k hk => by
    rw [← hl] at hk ⊢
    exact getElem?_eq_extractLsb'_assemble _ (hl ▸ widthBytes_le wd) hk
  refine ⟨hl ▸ assemble_lt _ bs, loadBytes_draws hload, bs, hload, hl,
    fun he => by simpa only [he, byteIndex_little] using hbytes, fun he => by simpa only [he, byteIndex_big] using hbytes,
    fun ha => ?_, fun ha => loadBytes_apart_steps ha hload⟩
  simp only [loadBytes_aligned ha, Option.map_eq_some_iff, Prod.mk.injEq] at hload
  obtain ⟨_, hseen, rfl, rfl⟩ := hload
  refine ⟨hseen, rfl, noteLoad_count .., fun hs => ?_, fun hs k hk => lookup_answers_noteLoad hs (hl ▸ hk)⟩
  rw [noteLoad_answers, hs, if_neg Bool.false_ne_true]

/-! ## Stores as bytes -/

section

variable (s : State) (addr : Word) (wd : Width) (v : Word)

/-- A byte of the value just stored. -/
theorem read_storeValue_byte {k : Nat} (h : k < widthBytes wd) : (s.storeValue addr wd v).mem.read
    (addr.toNat + byteIndex s.platform.variant.endian (widthBytes wd) k) = some (v.extractLsb' (8 * k) 8) := by
  have hlt := byteIndex_lt s.platform.variant.endian h
  rw [storeValue_mem, read_writeAll, length_disassemble, if_pos (by omega), Nat.add_sub_cancel_left,
    getElem?_disassemble _ _ h]

/-- The same by address. -/
theorem read_storeValue_getElem {k : Nat}
    (h : k < (disassemble s.platform.variant.endian (widthBytes wd) v).length) :
    (s.storeValue addr wd v).mem.read (addr.toNat + k) =
      some (disassemble s.platform.variant.endian (widthBytes wd) v)[k] := by
  rw [storeValue_mem, read_writeAll, if_pos (by omega), Nat.add_sub_cancel_left, List.getElem?_eq_getElem h]

/-- A byte outside those stored. -/
theorem read_storeValue_outside {x : Nat} (h : x < addr.toNat ∨ addr.toNat + widthBytes wd ≤ x) :
    (s.storeValue addr wd v).mem.read x = s.mem.read x := by
  rw [storeValue_mem, read_writeAll, length_disassemble, if_neg (by omega)]

end

/-- Settles O46: a store that answers is `storeValue`, which the rules above describe. -/
theorem storedBytesAndNoOthers : Obligations.StoredBytesAndNoOthers := by
  intro s t addr wd v h
  obtain ⟨-, rfl⟩ := memWrite_ok h
  have hbytes := fun k => read_storeValue_byte s addr wd v (k := k)
  exact ⟨fun he => by simpa only [he, byteIndex_little] using hbytes,
    fun he => by simpa only [he, byteIndex_big] using hbytes, fun _ => read_storeValue_outside s addr wd v, rfl, rfl⟩

/-- A load of bytes memory holds sees them, where they are not shared (of an aligned load the first, of a misaligned one
each) or no other agent writes. -/
theorem loadBytes_of_read {s : State} {a n : Nat} {bs : List Byte} (hm : s.platform.memoryModel = .noOtherWriter ∨
      isShared s.platform a = false ∧ (a % n ≠ 0 → ∀ k, k < n → isShared s.platform (a + k) = false))
    (hl : bs.length = n) (hbs : ∀ k (h : k < bs.length), s.mem.read (a + k) = some bs[k]) :
    ∃ t, s.loadBytes a n = some (bs, t) := by
  by_cases ha : a % n = 0
  · have hown := seenBytes_own (n := n) (hm.symm.imp And.left fun hm => ⟨[], hm, rfl⟩)
    rw [loadBytes_aligned ha, seenBytes_of_read hown hl hbs]
    exact ⟨_, rfl⟩
  · obtain ⟨-, -, -, -, -, -, hmisaligned⟩ := byteALoadSees s a n
    obtain ⟨-, hprivate⟩ := hmisaligned ha
    obtain ⟨hread, -⟩ := hprivate (hm.imp_right fun h => h.2 ha)
    exact hread bs hl hbs

/-- Settles O47: the load sees the bytes the value was taken apart into, and puts them together again. -/
theorem loadAfterStore : Obligations.LoadAfterStore := by
  intro s t addr wd v h hc hm
  obtain ⟨-, rfl⟩ := memWrite_ok h
  obtain ⟨u, hu⟩ := loadBytes_of_read (s := s.storeValue addr wd v) hm (length_disassemble _ _ v)
    fun k hk => read_storeValue_getElem s addr wd v hk
  refine ⟨u, ?_⟩
  rw [memRead_of (s := s.storeValue addr wd v) hc hu, storeValue_platform, assemble_disassemble]

/-! ## What an instruction can change of memory -/

/-- The instructions that call a function (R262, R263, R264). -/
def IsCall (i : Instr) : Prop :=
  (∃ id, i = .callHelper id) ∨ (∃ id, i = .callBtf id) ∨ ∃ disp, i = .callLocal disp

/-- The bytes a store or an atomic operation can change: those of its width at its base register plus its offset. -/
def StoresAtTarget (i : Instr) (s t : State) : Prop :=
  ∃ (b : Reg) (off : Off) (wd : Width) (a v : Word) (s1 : State), storeTarget i = some (b, off, wd) ∧
    s.readReg b = .ok (a, s1) ∧ t.mem = (s.storeValue (effAddr a off) wd v).mem

/-- An effect leaves memory as it was, or stores a value at the instruction's target, or is a call's. -/
theorem Effect.mem_cases {i : Instr} {s t : State} (h : Effect i s t) :
    t.mem = s.mem ∨ StoresAtTarget i s t ∨ IsCall i := by
  cases h with
  | stores b off wd a v s1 al k ht hb hc h => subst h; exact .inr (.inl ⟨b, off, wd, a, v, s1, ht, hb, rfl⟩)
  | exchanges b off wd a v old s1 d k ht hw hb hc h =>
    subst h; exact .inr (.inl ⟨b, off, wd, a, v, s1, ht, hb, rfl⟩)
  | helper k r0 ws hi h => exact .inr (.inr (hi.imp_right .inl))
  | enters disp hi h => exact .inr (.inr (.inr (.inr ⟨disp, hi⟩)))
  | ends v s1 hi hf hr h => subst h; rw [readReg_state hr]; exact .inl rfl
  | _ => subst_vars; exact .inl rfl

/-- A call stores at no address of its own. -/
theorem storeTarget_of_isCall {i : Instr} (h : IsCall i) : storeTarget i = none := by
  obtain ⟨id, rfl⟩ | ⟨id, rfl⟩ | ⟨disp, rfl⟩ := h <;> rfl

/-- Settles O50: an instruction with a target stores there, or leaves memory as it was. -/
theorem storesTouchOnlyTheirBytes : Obligations.StoresTouchOnlyTheirBytes := by
  intro i s t s1 dst off wd base htarget hbase h x hx
  obtain hmem | ⟨b, off', wd', a, v, s1', htarget', hbase', hmem⟩ | hcall := (exec_next h).mem_cases
  · rw [hmem]
  · obtain ⟨rfl, rfl, rfl⟩ : dst = b ∧ off = off' ∧ wd = wd' := by simpa [htarget] using htarget'
    obtain ⟨rfl, rfl⟩ : base = a ∧ s1 = s1' := by simpa [hbase] using hbase'
    rw [hmem, read_storeValue_outside s _ wd v hx]
  · rw [storeTarget_of_isCall hcall] at htarget
    cases htarget

/-- The calls change memory. -/
theorem changesMemory_of_isCall {i : Instr} (h : IsCall i) : changesMemory i = true := by
  obtain ⟨id, rfl⟩ | ⟨id, rfl⟩ | ⟨disp, rfl⟩ := h <;> rfl

/-- The instructions with a target change memory. -/
theorem changesMemory_of_storeTarget {i : Instr} {target : Reg × Off × Width} (h : storeTarget i = some target) :
    changesMemory i = true := by
  cases i
  case stW | stH | stB | stDw | stxW | stxH | stxB | stxDw => rfl
  case atomicAddW | atomicOrW | atomicAndW | atomicXorW | atomicAddDw | atomicOrDw | atomicAndDw | atomicXorDw => rfl
  case atomicFetchAddW | atomicFetchOrW | atomicFetchAndW | atomicFetchXorW | atomicXchgW | atomicCmpxchgW => rfl
  case atomicFetchAddDw | atomicFetchOrDw | atomicFetchAndDw | atomicFetchXorDw | atomicXchgDw | atomicCmpxchgDw => rfl
  all_goals cases h

/-- An instruction that is no store, atomic operation or call leaves memory as it was. -/
theorem Effect.mem_of_changesMemory {i : Instr} {s t : State} (h : Effect i s t) (hi : changesMemory i = false) :
    t.mem = s.mem := by
  obtain hmem | ⟨_, _, _, _, _, _, htarget, -⟩ | hcall := h.mem_cases
  · exact hmem
  · rw [changesMemory_of_storeTarget htarget] at hi; cases hi
  · rw [changesMemory_of_isCall hcall] at hi; cases hi

/-- What an effect does to the status: a fault is taken and nothing else happens, or the run ends, or the status
stays. -/
theorem Effect.status_cases {i : Instr} {s t : State} (h : Effect i s t) :
    (∃ c, t = s.raise c) ∨ (∃ v, t.status = .exited v) ∨ t.status = s.status := by
  cases h with
  | faults c h => exact .inl ⟨c, h⟩
  | ends v s1 hi hf hr h => subst h; exact .inr (.inl ⟨v, rfl⟩)
  | enters disp hi h =>
    obtain ⟨-, -, -, -, -, -, hstatus, -⟩ := enterLocal_ok h
    exact .inr (.inr hstatus)
  | _ => subst_vars; exact .inr (.inr rfl)

/-- Settles O60: by what an effect does to memory, and by what it does to the status. -/
theorem memoryChangesOnlyAtStoresAndCalls : Obligations.MemoryChangesOnlyAtStoresAndCalls := by
  refine ⟨fun i s t h hi x => by rw [(exec_next h).mem_of_changesMemory hi], fun i s t c k hrun h hfault => ?_⟩
  obtain ⟨c', rfl⟩ | ⟨v, hexit⟩ | hstays := (exec_next h).status_cases
  · obtain ⟨rfl, -⟩ : c' = c ∧ s.pc = k := by simpa using hfault
    rfl
  · rw [hexit] at hfault; cases hfault
  · rw [hstays, hrun] at hfault; cases hfault

/-! ## The faults of a data access -/

section

variable {s s1 s2 s3 : State} {dst : Dst} {base src : Reg} {off : Off} {imm : Imm} {a e v addr : Word} {wd : Width}
  {c : Cause}

/-- A load's read takes the fault of its first failing check, else that of a byte with no value (R364). -/
theorem memRead_of_loadFaults (h : s.loadFaults addr wd c) : s.memRead addr wd = .error c := by
  obtain hc | ⟨hc, hnone, rfl⟩ := h
  · rw [State.memRead, hc, error_bind]
  · simp only [State.memRead, hc, ok_bind, hnone]

/-- An atomic event takes the fault of its first failing check, else that of a byte with no value, whatever the update
(R306, log 10). -/
theorem atomically_of_atomicFaults (h : s.atomicFaults addr wd c) (up : Word → Option Word) :
    s.atomically addr wd up = .error c := by
  obtain hr | ⟨hr, hw | ⟨hw, hnone, rfl⟩⟩ := h
  · rw [State.atomically, hr, error_bind]
  · rw [State.atomically, hr, ok_bind, hw, error_bind]
  · simp only [State.atomically, hr, hw, ok_bind, State.fetchValue, hnone, error_bind]

/-! Each shape of instruction takes the fault of its access in the state it began in (R360). -/

theorem loadReg_of_loadFaults (h : s.readReg src = .ok (a, s1)) (hf : s1.loadFaults (effAddr a off) wd c) :
    loadReg wd dst src off s = .next (s.raise c) := by
  simp only [loadReg, h, ok_bind, memRead_of_loadFaults hf, error_bind, settle_error]

theorem storeImm_of_check_error (h : s.readReg base = .ok (a, s1))
    (hc : checkAccess s.platform .write (s.platform.misaligned == .fault) (effAddr a off) wd = .error c) :
    storeImm wd base off imm s = .next (s.raise c) := by
  rw [← readReg_platform h] at hc
  simp only [storeImm, h, ok_bind, State.memWrite, hc, error_bind, settle_error]

theorem storeReg_of_check_error (h : s.readReg base = .ok (a, s1)) (h2 : s1.readReg src = .ok (v, s2))
    (hc : checkAccess s.platform .write (s.platform.misaligned == .fault) (effAddr a off) wd = .error c) :
    storeReg wd base src off s = .next (s.raise c) := by
  rw [← readReg_platform h, ← readReg_platform h2] at hc
  simp only [storeReg, h, h2, ok_bind, State.memWrite, hc, error_bind, settle_error]

theorem atomicUpdate_of_atomicFaults (f : Word → Word → Word) (h : s.readReg base = .ok (a, s1))
    (h2 : s1.readReg src = .ok (v, s2)) (hf : s2.atomicFaults (effAddr a off) wd c) :
    atomicUpdate wd f base src off s = .next (s.raise c) := by
  simp only [atomicUpdate, h, h2, ok_bind, atomically_of_atomicFaults hf, error_bind, settle_error]

theorem atomicFetch_of_atomicFaults (f : Word → Word → Word) (h : s.readReg base = .ok (a, s1))
    (h2 : s1.readReg dst.castSucc = .ok (v, s2)) (hf : s2.atomicFaults (effAddr a off) wd c) :
    atomicFetch wd f base dst off s = .next (s.raise c) := by
  simp only [atomicFetch, h, h2, ok_bind, atomically_of_atomicFaults hf, error_bind, settle_error]

theorem atomicCompare_of_atomicFaults (view : Word → Word) (h : s.readReg base = .ok (a, s1))
    (h1 : s1.readReg 0 = .ok (e, s2)) (h2 : s2.readReg src = .ok (v, s3))
    (hf : s3.atomicFaults (effAddr a off) wd c) : atomicCompare wd view base src off s = .next (s.raise c) := by
  simp only [atomicCompare, h, h1, h2, ok_bind, atomically_of_atomicFaults hf, error_bind, settle_error]

end

/-- Settles O51: each instruction by the rule of its shape, at its width. -/
theorem dataAccessFaultsAreTaken : Obligations.DataAccessFaultsAreTaken := by
  intro s s1 base off c
  refine ⟨fun dst src h => ?_, fun dst h => ?_, fun dst src v s2 h h2 => ?_, fun dst src v s2 h h2 => ?_,
    fun dst src e v s2 s3 h h1 h2 => ?_⟩
  · have loads {wd : Width} := loadReg_of_loadFaults (dst := dst) (off := off) (wd := wd) (c := c) h
    exact ⟨loads, loads, loads, loads⟩
  · have stores {wd : Width} (hc) := And.intro
      (fun imm => storeImm_of_check_error (imm := imm) (off := off) (wd := wd) (c := c) h hc)
      fun src v s2 h2 => storeReg_of_check_error (src := src) (v := v) (s2 := s2) h h2 hc
    exact ⟨stores, stores, stores, stores⟩
  · have updates {wd : Width} (hf) (f) := atomicUpdate_of_atomicFaults (off := off) (wd := wd) (c := c) f h h2 hf
    exact ⟨fun hf => ⟨updates hf _, updates hf _, updates hf _, updates hf _⟩,
      fun hf => ⟨updates hf _, updates hf _, updates hf _, updates hf _⟩⟩
  · have fetches {wd : Width} (hf) (f) := atomicFetch_of_atomicFaults (off := off) (wd := wd) (c := c) f h h2 hf
    exact ⟨fun hf => ⟨fetches hf _, fetches hf _, fetches hf _, fetches hf _, fetches hf _⟩,
      fun hf => ⟨fetches hf _, fetches hf _, fetches hf _, fetches hf _, fetches hf fun _ v => v⟩⟩
  · exact ⟨fun hf => atomicCompare_of_atomicFaults _ h h1 h2 hf, fun hf => atomicCompare_of_atomicFaults _ h h1 h2 hf⟩

end Sys2Proof.Machine

/-! PROOFS. The statements of the family on encoding (spec/30_encoding.md): decoding is the inverse of encoding in both
directions, and the slots that decode to nothing. -/

namespace Sys2Proof

/-! ## Decoding the fields of an instruction

What the decoder of each shape answers to the fields an encoder writes in that shape. -/

@[simp] theorem decoded_ok_bind {α β : Type} (a : α) (k : α → Decoded β) : (.ok a : Decoded α) >>= k = k a := rfl

section

variable {v : Variant} {op : BitVec 8} {d : Dst} {r q : Reg} {off : Off} {imm : Imm}

theorem decodeAluK_fields {mk : Dst → Imm → Instr} :
    decodeAluK mk ⟨op, regField d, 0, 0, imm⟩ = .ok (mk d imm) := by
  simp [decodeAluK]

theorem decodeAluX_fields {mk : Dst → Reg → Instr} :
    decodeAluX mk ⟨op, regField d, regField r, 0, 0⟩ = .ok (mk d r) := by
  simp [decodeAluX]

theorem decodeNegK_fields {mk : Dst → Imm → Instr} (h : v.negOperand = .dst → imm = 0) :
    decodeNegK v mk ⟨op, regField d, 0, 0, imm⟩ = .ok (mk d imm) := by
  rw [decodeNegK]
  split
  · next hv =>
    rw [h hv]
    exact decodeAluK_fields
  · exact decodeAluK_fields

theorem decodeNegX_fields {mk : Dst → Reg → Instr} (h : v.negOperand = .src) :
    decodeNegX v mk ⟨op, regField d, regField r, 0, 0⟩ = .ok (mk d r) := by
  rw [decodeNegX, if_neg (by simp [h])]
  exact decodeAluX_fields

theorem decodeJumpK_fields {mk : Reg → Imm → Off → Instr} :
    decodeJumpK mk ⟨op, regField r, 0, off, imm⟩ = .ok (mk r imm off) := by
  simp [decodeJumpK]

theorem decodeJumpX_fields {mk : Reg → Reg → Off → Instr} :
    decodeJumpX mk ⟨op, regField r, regField q, off, 0⟩ = .ok (mk r q off) := by
  simp [decodeJumpX]

theorem decodeLdx_fields {mk : Dst → Reg → Off → Instr} :
    decodeLdx mk ⟨op, regField d, regField r, off, 0⟩ = .ok (mk d r off) := by
  simp [decodeLdx]

theorem decodeSt_fields {mk : Reg → Off → Imm → Instr} :
    decodeSt mk ⟨op, regField r, 0, off, imm⟩ = .ok (mk r off imm) := by
  simp [decodeSt]

theorem decodeStx_fields {mk : Reg → Reg → Off → Instr} :
    decodeStx mk ⟨op, regField r, regField q, off, 0⟩ = .ok (mk r q off) := by
  simp [decodeStx]

theorem decodeAtomic_fields {mk : Reg → Reg → Off → Instr} :
    decodeAtomic mk ⟨op, regField r, regField q, off, imm⟩ = .ok (mk r q off) := by
  simp [decodeAtomic]

theorem decodeAtomicFetch_fields {mk : Reg → Dst → Off → Instr} :
    decodeAtomicFetch mk ⟨op, regField r, regField d, off, imm⟩ = .ok (mk r d off) := by
  simp [decodeAtomicFetch]

theorem decodeSwap_fields (mk16 mk32 mk64 : Dst → Instr) :
    decodeSwap mk16 mk32 mk64 ⟨op, regField d, 0, 0, 16⟩ = .ok (mk16 d) ∧
      decodeSwap mk16 mk32 mk64 ⟨op, regField d, 0, 0, 32⟩ = .ok (mk32 d) ∧
      decodeSwap mk16 mk32 mk64 ⟨op, regField d, 0, 0, 64⟩ = .ok (mk64 d) := by
  simp [decodeSwap]

/-- A displacement that fits the `offset` field is read back from it. -/
theorem signExtend_truncate_of_fitsOffset {disp : BitVec 32} (h : fitsOffset disp = true) :
    (disp.truncate 16).signExtend 32 = disp := by
  simpa [fitsOffset] using h

/-- A local call is read back from the field that holds its displacement (R263). -/
theorem decodeCall_callLocal {disp : BitVec 32} (h : (Instr.callLocal disp).wellFormed v = true) :
    decodeCall v ((Instr.callLocal disp).fields v) = .ok (.callLocal disp) := by
  rw [Instr.wellFormed] at h
  rw [Instr.fields]
  cases hv : v.localCallField with
  | offset =>
    rw [hv] at h
    simpa [decodeCall, hv] using signExtend_truncate_of_fitsOffset h
  | imm => simp [decodeCall, hv]

end

/-- An instruction of one slot is read back from its fields: by shape of operands. -/
theorem decodeBasic_fields {v : Variant} {i : Instr} (hw : i.wellFormed v = true) (hs : i.secondFields = none) :
    decodeBasic v (i.fields v) = .ok i := by
  cases i <;> dsimp only [Instr.fields]
  case add32K | add64K | sub32K | sub64K | mul32K | mul64K | div32K | div64K | or32K | or64K | and32K | and64K |
      lsh32K | lsh64K | rsh32K | rsh64K | mod32K | mod64K | xor32K | xor64K | mov32K | mov64K | arsh32K | arsh64K =>
    exact decodeAluK_fields
  case add32X | add64X | sub32X | sub64X | mul32X | mul64X | div32X | div64X | or32X | or64X | and32X | and64X |
      lsh32X | lsh64X | rsh32X | rsh64X | mod32X | mod64X | xor32X | xor64X | mov32X | mov64X | arsh32X | arsh64X =>
    exact decodeAluX_fields
  case neg32K | neg64K =>
    exact decodeNegK_fields fun hv => by simpa [Instr.wellFormed, hv] using hw
  case neg32X | neg64X => exact decodeNegX_fields (by simpa [Instr.wellFormed] using hw)
  case le16 => exact (decodeSwap_fields .le16 .le32 .le64).1
  case le32 => exact (decodeSwap_fields .le16 .le32 .le64).2.1
  case le64 => exact (decodeSwap_fields .le16 .le32 .le64).2.2
  case be16 => exact (decodeSwap_fields .be16 .be32 .be64).1
  case be32 => exact (decodeSwap_fields .be16 .be32 .be64).2.1
  case be64 => exact (decodeSwap_fields .be16 .be32 .be64).2.2
  case jeq64K | jeq32K | jgt64K | jgt32K | jge64K | jge32K | jset64K | jset32K | jne64K | jne32K | jsgt64K | jsgt32K |
      jsge64K | jsge32K | jlt64K | jlt32K | jle64K | jle32K | jslt64K | jslt32K | jsle64K | jsle32K =>
    exact decodeJumpK_fields
  case jeq64X | jeq32X | jgt64X | jgt32X | jge64X | jge32X | jset64X | jset32X | jne64X | jne32X | jsgt64X | jsgt32X |
      jsge64X | jsge32X | jlt64X | jlt32X | jle64X | jle32X | jslt64X | jslt32X | jsle64X | jsle32X =>
    exact decodeJumpX_fields
  case ja | callHelper | callBtf | exit => rfl
  case callLocal disp =>
    rw [← decodeCall_callLocal hw, Instr.fields]
    cases v.localCallField <;> rfl
  case ldxW | ldxH | ldxB | ldxDw => exact decodeLdx_fields
  case stW | stH | stB | stDw => exact decodeSt_fields
  case stxW | stxH | stxB | stxDw => exact decodeStx_fields
  case atomicAddW | atomicOrW | atomicAndW | atomicXorW | atomicCmpxchgW | atomicAddDw | atomicOrDw | atomicAndDw |
      atomicXorDw | atomicCmpxchgDw => exact decodeAtomic_fields
  case atomicFetchAddW | atomicFetchOrW | atomicFetchAndW | atomicFetchXorW | atomicXchgW | atomicFetchAddDw |
      atomicFetchOrDw | atomicFetchAndDw | atomicFetchXorDw | atomicXchgDw => exact decodeAtomicFetch_fields
  case ldImm64 | ldMapFd | ldMapValueFd | ldVarAddr | ldCodeAddr | ldMapIdx | ldMapValueIdx => cases hs

/-- The decoder of one slot has no instruction for the opcode of the wide encoding. -/
theorem decodeBasic_of_wide_opcode {v : Variant} {f : Fields} (ho : f.opcode = 0x18) :
    decodeBasic v f = .error (.reservedOpcode 0x18) := by
  obtain ⟨op, d, s, o, imm⟩ := f
  cases ho
  rfl

/-- What the decoder of one slot answers does not have the opcode of the wide encoding. -/
theorem opcode_ne_of_decodeBasic {v : Variant} {f : Fields} {i : Instr} (h : decodeBasic v f = .ok i) :
    f.opcode ≠ 0x18 := fun ho => by
  rw [decodeBasic_of_wide_opcode ho] at h
  cases h

/-- An instruction of two slots is read back from their fields: by subtype. -/
theorem decodeWide_fields {v : Variant} {i : Instr} {g : Fields} (hs : i.secondFields = some g) :
    (i.fields v).opcode = 0x18 ∧ decodeWide (i.fields v) g = .ok i := by
  cases i
  case ldImm64 | ldMapFd | ldMapValueFd | ldVarAddr | ldCodeAddr | ldMapIdx | ldMapValueIdx =>
    cases hs
    exact ⟨rfl, by simp [Instr.fields, decodeWide]⟩
  all_goals cases hs

/-- Settles O1: an instruction of one slot by its shape, one of two by its subtype. -/
theorem decodeOfEncode : Obligations.DecodeOfEncode := by
  intro v i rest hw
  cases hs : i.secondFields with
  | none =>
    have hd := decodeBasic_fields hw hs
    simp only [decode, encode, hs, List.append_nil, slotFields_bytes, if_neg (opcode_ne_of_decodeBasic hd), hd,
      Except.map]
  | some g =>
    obtain ⟨ho, hd⟩ := decodeWide_fields (v := v) hs
    simp only [decode, encode, hs, List.append_assoc, slotFields_bytes, if_pos ho, hd, Except.map]

/-! ## The fields that decode to an instruction -/

/-- A slot with these fields is the whole encoding of the instruction in this variant. -/
structure Encodes (v : Variant) (f : Fields) (i : Instr) : Prop where
  wellFormed : i.wellFormed v = true
  fields : f = i.fields v
  basic : i.secondFields = none

/-- Fields are known one by one. -/
theorem Fields.eq_mk {f : Fields} {op : BitVec 8} {d s : BitVec 4} {off : Off} {imm : Imm} (ho : f.opcode = op)
    (hd : f.dst = d) (hs : f.src = s) (hoff : f.offset = off) (himm : f.imm = imm) : f = ⟨op, d, s, off, imm⟩ := by
  rw [← ho, ← hd, ← hs, ← hoff, ← himm]

section

variable {v : Variant} {f g : Fields} {i : Instr} {k n : Nat}

/-! What the decoder of each shape answers, the fields it was given encode: where the constructor it was given does so
for every value of its operands. -/

theorem decodeAluK_encodes {mk : Dst → Imm → Instr} (h : decodeAluK mk f = .ok i) (ho : f.opcode.toNat = k)
    (hmk : ∀ d imm, Encodes v ⟨BitVec.ofNat 8 k, regField d, 0, 0, imm⟩ (mk d imm)) : Encodes v f i := by
  obtain ⟨d, hf, rfl⟩ := decodeAluK_ok h
  rw [hf, eq_ofNat_of_toNat ho]
  exact hmk d f.imm

theorem decodeAluX_encodes {mk : Dst → Reg → Instr} (h : decodeAluX mk f = .ok i) (ho : f.opcode.toNat = k)
    (hmk : ∀ d r, Encodes v ⟨BitVec.ofNat 8 k, regField d, regField r, 0, 0⟩ (mk d r)) : Encodes v f i := by
  obtain ⟨d, r, hf, rfl⟩ := decodeAluX_ok h
  rw [hf, eq_ofNat_of_toNat ho]
  exact hmk d r

theorem decodeNegK_encodes {mk : Dst → Imm → Instr} (h : decodeNegK v mk f = .ok i) (ho : f.opcode.toNat = k)
    (hmk : ∀ d imm, (v.negOperand = .dst → imm = 0) →
      Encodes v ⟨BitVec.ofNat 8 k, regField d, 0, 0, imm⟩ (mk d imm)) : Encodes v f i := by
  have hz : (v.negOperand = .dst → f.imm = 0) ∧ decodeAluK mk f = .ok i := by
    unfold decodeNegK at h
    split at h
    · obtain ⟨_, hz, h⟩ := decoded_bind h
      exact ⟨fun _ => zero_of_requireZero hz, h⟩
    · next hv => exact ⟨fun hd => absurd hd hv, h⟩
  obtain ⟨d, hf, rfl⟩ := decodeAluK_ok hz.2
  rw [hf, eq_ofNat_of_toNat ho]
  exact hmk d f.imm hz.1

theorem decodeNegX_encodes {mk : Dst → Reg → Instr} (h : decodeNegX v mk f = .ok i) (ho : f.opcode.toNat = k)
    (hmk : ∀ d r, v.negOperand = .src → Encodes v ⟨BitVec.ofNat 8 k, regField d, regField r, 0, 0⟩ (mk d r)) :
    Encodes v f i := by
  unfold decodeNegX at h
  cases hv : v.negOperand with
  | src => exact decodeAluX_encodes (by simpa [hv] using h) ho fun d r => hmk d r hv
  | dst => simp [hv] at h

theorem decodeSwap_encodes {m16 m32 m64 : Dst → Instr} (h : decodeSwap m16 m32 m64 f = .ok i) (ho : f.opcode.toNat = k)
    (hmk : ∀ d, Encodes v ⟨BitVec.ofNat 8 k, regField d, 0, 0, 16⟩ (m16 d) ∧
      Encodes v ⟨BitVec.ofNat 8 k, regField d, 0, 0, 32⟩ (m32 d) ∧
      Encodes v ⟨BitVec.ofNat 8 k, regField d, 0, 0, 64⟩ (m64 d)) : Encodes v f i := by
  obtain ⟨d, hd⟩ := decodeSwap_ok h
  obtain ⟨h16, h32, h64⟩ := hmk d
  rw [eq_ofNat_of_toNat ho] at hd
  obtain ⟨rfl, hf⟩ | ⟨rfl, hf⟩ | ⟨rfl, hf⟩ := hd
  · rw [hf]; exact h16
  · rw [hf]; exact h32
  · rw [hf]; exact h64

theorem decodeJumpK_encodes {mk : Reg → Imm → Off → Instr} (h : decodeJumpK mk f = .ok i) (ho : f.opcode.toNat = k)
    (hmk : ∀ r imm off, Encodes v ⟨BitVec.ofNat 8 k, regField r, 0, off, imm⟩ (mk r imm off)) : Encodes v f i := by
  obtain ⟨r, hf, rfl⟩ := decodeJumpK_ok h
  rw [hf, eq_ofNat_of_toNat ho]
  exact hmk r f.imm f.offset

theorem decodeJumpX_encodes {mk : Reg → Reg → Off → Instr} (h : decodeJumpX mk f = .ok i) (ho : f.opcode.toNat = k)
    (hmk : ∀ r q off, Encodes v ⟨BitVec.ofNat 8 k, regField r, regField q, off, 0⟩ (mk r q off)) : Encodes v f i := by
  obtain ⟨r, q, hf, rfl⟩ := decodeJumpX_ok h
  rw [hf, eq_ofNat_of_toNat ho]
  exact hmk r q f.offset

theorem decodeLdx_encodes {mk : Dst → Reg → Off → Instr} (h : decodeLdx mk f = .ok i) (ho : f.opcode.toNat = k)
    (hmk : ∀ d r off, Encodes v ⟨BitVec.ofNat 8 k, regField d, regField r, off, 0⟩ (mk d r off)) : Encodes v f i := by
  obtain ⟨d, r, hf, rfl⟩ := decodeLdx_ok h
  rw [hf, eq_ofNat_of_toNat ho]
  exact hmk d r f.offset

theorem decodeSt_encodes {mk : Reg → Off → Imm → Instr} (h : decodeSt mk f = .ok i) (ho : f.opcode.toNat = k)
    (hmk : ∀ r off imm, Encodes v ⟨BitVec.ofNat 8 k, regField r, 0, off, imm⟩ (mk r off imm)) : Encodes v f i := by
  obtain ⟨r, hf, rfl⟩ := decodeSt_ok h
  rw [hf, eq_ofNat_of_toNat ho]
  exact hmk r f.offset f.imm

theorem decodeStx_encodes {mk : Reg → Reg → Off → Instr} (h : decodeStx mk f = .ok i) (ho : f.opcode.toNat = k)
    (hmk : ∀ r q off, Encodes v ⟨BitVec.ofNat 8 k, regField r, regField q, off, 0⟩ (mk r q off)) : Encodes v f i := by
  obtain ⟨r, q, hf, rfl⟩ := decodeStx_ok h
  rw [hf, eq_ofNat_of_toNat ho]
  exact hmk r q f.offset

theorem decodeAtomic_encodes {mk : Reg → Reg → Off → Instr} (h : decodeAtomic mk f = .ok i) (ho : f.opcode.toNat = k)
    (hn : f.imm.toNat = n)
    (hmk : ∀ r q off, Encodes v ⟨BitVec.ofNat 8 k, regField r, regField q, off, BitVec.ofNat 32 n⟩ (mk r q off)) :
    Encodes v f i := by
  obtain ⟨r, q, hf, rfl⟩ := decodeAtomic_ok h
  rw [hf, eq_ofNat_of_toNat ho, eq_ofNat_of_toNat hn]
  exact hmk r q f.offset

theorem decodeAtomicFetch_encodes {mk : Reg → Dst → Off → Instr} (h : decodeAtomicFetch mk f = .ok i)
    (ho : f.opcode.toNat = k) (hn : f.imm.toNat = n)
    (hmk : ∀ r d off, Encodes v ⟨BitVec.ofNat 8 k, regField r, regField d, off, BitVec.ofNat 32 n⟩ (mk r d off)) :
    Encodes v f i := by
  obtain ⟨r, d, hf, rfl⟩ := decodeAtomicFetch_ok h
  rw [hf, eq_ofNat_of_toNat ho, eq_ofNat_of_toNat hn]
  exact hmk r d f.offset

theorem decodeAtomicW_encodes (h : decodeAtomicW f = .ok i) (ho : f.opcode.toNat = 0xc3) : Encodes v f i := by
  unfold decodeAtomicW at h
  split at h
  case h_11 => cases h
  case h_5 | h_6 | h_7 | h_8 | h_9 =>
    next hn => exact decodeAtomicFetch_encodes h ho hn fun _ _ _ => ⟨rfl, rfl, rfl⟩
  all_goals next hn => exact decodeAtomic_encodes h ho hn fun _ _ _ => ⟨rfl, rfl, rfl⟩

theorem decodeAtomicDW_encodes (h : decodeAtomicDW f = .ok i) (ho : f.opcode.toNat = 0xdb) : Encodes v f i := by
  unfold decodeAtomicDW at h
  split at h
  case h_11 => cases h
  case h_5 | h_6 | h_7 | h_8 | h_9 =>
    next hn => exact decodeAtomicFetch_encodes h ho hn fun _ _ _ => ⟨rfl, rfl, rfl⟩
  all_goals next hn => exact decodeAtomic_encodes h ho hn fun _ _ _ => ⟨rfl, rfl, rfl⟩

theorem decodeJa_encodes (h : decodeJa f = .ok i) (ho : f.opcode.toNat = 0x05) : Encodes v f i := by
  obtain ⟨_, hd, h⟩ := decoded_bind h
  obtain ⟨_, hs, h⟩ := decoded_bind h
  obtain ⟨_, himm, h⟩ := decoded_bind h
  obtain rfl := Except.ok.inj h
  have ho := eq_ofNat_of_toNat ho
  exact ⟨rfl, Fields.eq_mk ho (zero_of_requireZero hd) (zero_of_requireZero hs) rfl (zero_of_requireZero himm), rfl⟩

theorem decodeExit_encodes (h : decodeExit f = .ok i) (ho : f.opcode.toNat = 0x95) : Encodes v f i := by
  obtain ⟨_, hd, h⟩ := decoded_bind h
  obtain ⟨_, hs, h⟩ := decoded_bind h
  obtain ⟨_, hoff, h⟩ := decoded_bind h
  obtain ⟨_, himm, h⟩ := decoded_bind h
  obtain rfl := Except.ok.inj h
  have ho := eq_ofNat_of_toNat ho
  exact ⟨rfl, Fields.eq_mk ho (zero_of_requireZero hd) (zero_of_requireZero hs) (zero_of_requireZero hoff)
    (zero_of_requireZero himm), rfl⟩

/-- A sign-extended `offset` fits the field it came from. -/
theorem fitsOffset_signExtend (off : Off) : fitsOffset (off.signExtend 32) = true := by
  simp [fitsOffset]

/-- A call: by kind, and a local one by the field that holds its displacement (R263). -/
theorem decodeCall_encodes (h : decodeCall v f = .ok i) (ho : f.opcode.toNat = 0x85) : Encodes v f i := by
  obtain ⟨_, hd, h⟩ := decoded_bind h
  have hd := zero_of_requireZero hd
  have ho := eq_ofNat_of_toNat ho
  split at h
  case h_1 hs | h_3 hs =>
    obtain ⟨_, hoff, h⟩ := decoded_bind h
    obtain rfl := Except.ok.inj h
    exact ⟨rfl, Fields.eq_mk ho hd (eq_ofNat_of_toNat hs) (zero_of_requireZero hoff) rfl, rfl⟩
  case h_2 hs =>
    have hs := eq_ofNat_of_toNat hs
    split at h
    · next hv =>
      obtain ⟨_, himm, h⟩ := decoded_bind h
      obtain rfl := Except.ok.inj h
      refine ⟨by simp [Instr.wellFormed, hv, fitsOffset_signExtend], ?_, rfl⟩
      rw [Instr.fields, hv]
      exact Fields.eq_mk ho hd hs (setWidth_signExtend_offset _).symm (zero_of_requireZero himm)
    · next hv =>
      obtain ⟨_, hoff, h⟩ := decoded_bind h
      obtain rfl := Except.ok.inj h
      refine ⟨by simp [Instr.wellFormed, hv], ?_, rfl⟩
      rw [Instr.fields, hv]
      exact Fields.eq_mk ho hd hs (zero_of_requireZero hoff) rfl
  case h_4 => cases h

/-! NEG is well-formed by the variant's choice of operand (R146). -/

theorem encodes_neg32K {d : Dst} {imm : Imm} (hz : v.negOperand = .dst → imm = 0) :
    Encodes v ⟨0x84#8, regField d, 0, 0, imm⟩ (.neg32K d imm) :=
  ⟨by rw [Instr.wellFormed]; split <;> simp_all, rfl, rfl⟩

theorem encodes_neg64K {d : Dst} {imm : Imm} (hz : v.negOperand = .dst → imm = 0) :
    Encodes v ⟨0x87#8, regField d, 0, 0, imm⟩ (.neg64K d imm) :=
  ⟨by rw [Instr.wellFormed]; split <;> simp_all, rfl, rfl⟩

theorem encodes_neg32X {d : Dst} {r : Reg} (hv : v.negOperand = .src) :
    Encodes v ⟨0x8c#8, regField d, regField r, 0, 0⟩ (.neg32X d r) :=
  ⟨by rw [Instr.wellFormed, hv]; rfl, rfl, rfl⟩

theorem encodes_neg64X {d : Dst} {r : Reg} (hv : v.negOperand = .src) :
    Encodes v ⟨0x8f#8, regField d, regField r, 0, 0⟩ (.neg64X d r) :=
  ⟨by rw [Instr.wellFormed, hv]; rfl, rfl, rfl⟩

/-- What decodes from one slot has that slot as its encoding: by opcode, each by the shape of its operands. -/
theorem decodeBasic_encodes (h : decodeBasic v f = .ok i) : Encodes v f i := by
  unfold decodeBasic at h
  split at h <;> rename_i ho
  all_goals first
    | with_reducible refine decodeAluK_encodes h ho fun _ _ => ?_
    | with_reducible refine decodeAluX_encodes h ho fun _ _ => ?_
    | with_reducible refine decodeJumpK_encodes h ho fun _ _ _ => ?_
    | with_reducible refine decodeJumpX_encodes h ho fun _ _ _ => ?_
    | with_reducible refine decodeLdx_encodes h ho fun _ _ _ => ?_
    | with_reducible refine decodeSt_encodes h ho fun _ _ _ => ?_
    | with_reducible refine decodeStx_encodes h ho fun _ _ _ => ?_
    | with_reducible exact decodeNegK_encodes h ho fun _ _ => encodes_neg32K
    | with_reducible exact decodeNegK_encodes h ho fun _ _ => encodes_neg64K
    | with_reducible exact decodeNegX_encodes h ho fun _ _ => encodes_neg32X
    | with_reducible exact decodeNegX_encodes h ho fun _ _ => encodes_neg64X
    | with_reducible exact decodeAtomicW_encodes h ho
    | with_reducible exact decodeAtomicDW_encodes h ho
    | with_reducible exact decodeJa_encodes h ho
    | with_reducible exact decodeExit_encodes h ho
    | with_reducible exact decodeCall_encodes h ho
    | exact decodeSwap_encodes h ho fun _ => ⟨⟨rfl, rfl, rfl⟩, ⟨rfl, rfl, rfl⟩, ⟨rfl, rfl, rfl⟩⟩
    | cases h
  all_goals exact ⟨rfl, rfl, rfl⟩

/-- A decoding whose answer is passed on has one. -/
theorem decoded_map_ok {α β : Type} {x : Decoded α} {k : α → β} {b : β} (h : x.map k = .ok b) :
    ∃ a, x = .ok a ∧ k a = b := by
  cases x with
  | ok a => exact ⟨a, rfl, Except.ok.inj h⟩
  | error e => cases h

/-! ## The two slots of a wide instruction -/

/-- The instruction of each subtype, of its destination, `imm` and `next_imm` (R331). -/
inductive OfSubtype (d : Dst) (imm : Imm) : BitVec 4 → Imm → Instr → Prop
  | imm64 (next : Imm) : OfSubtype d imm 0 next (.ldImm64 d imm next)
  | mapFd : OfSubtype d imm 1 0 (.ldMapFd d imm)
  | mapValueFd (next : Imm) : OfSubtype d imm 2 next (.ldMapValueFd d imm next)
  | varAddr : OfSubtype d imm 3 0 (.ldVarAddr d imm)
  | codeAddr : OfSubtype d imm 4 0 (.ldCodeAddr d imm)
  | mapIdx : OfSubtype d imm 5 0 (.ldMapIdx d imm)
  | mapValueIdx (next : Imm) : OfSubtype d imm 6 next (.ldMapValueIdx d imm next)

/-- There are seven subtypes. -/
theorem OfSubtype.le {d : Dst} {imm next : Imm} {n : BitVec 4} (h : OfSubtype d imm n next i) : n.toNat ≤ 6 := by
  cases h <;> decide

/-- A decoding that ends with the register written. -/
theorem decodeDst_bind_ok {n : BitVec 4} {mk : Dst → Instr} (h : (do return mk (← decodeDst n)) = .ok i) :
    ∃ d, n = regField d ∧ i = mk d := by
  obtain ⟨d, hd, h⟩ := decoded_bind h
  exact ⟨d, regField_of_decodeDst hd, (Except.ok.inj h).symm⟩

/-- What two slots decode to: the second is zero but for `next_imm`, the first names a destination and a subtype. -/
theorem decodeWide_ok (h : decodeWide f g = .ok i) :
    ∃ d, f = ⟨f.opcode, regField d, f.src, 0, f.imm⟩ ∧ g = ⟨0, 0, 0, 0, g.imm⟩ ∧ OfSubtype d f.imm f.src g.imm i := by
  obtain ⟨_, hoff, h⟩ := decoded_bind h
  dsimp only at h
  split at h
  case isFalse => cases h
  case isTrue hg =>
    obtain ⟨hop, hdst, hsrc, hgoff⟩ := hg
    suffices hd : ∃ d, f.dst = regField d ∧ OfSubtype d f.imm f.src g.imm i by
      obtain ⟨d, hd, hi⟩ := hd
      exact ⟨d, Fields.eq_mk rfl hd rfl (zero_of_requireZero hoff) rfl, Fields.eq_mk hop hdst hsrc hgoff rfl, hi⟩
    split at h
    case h_8 => cases h
    case h_1 hn | h_3 hn | h_7 hn =>
      obtain ⟨d, hd, rfl⟩ := decodeDst_bind_ok h
      rw [eq_ofNat_of_toNat hn]
      exact ⟨d, hd, by constructor⟩
    case h_2 hn | h_4 hn | h_5 hn | h_6 hn =>
      obtain ⟨_, hz, h⟩ := decoded_bind h
      obtain ⟨d, hd, rfl⟩ := decodeDst_bind_ok h
      rw [eq_ofNat_of_toNat hn, zero_of_requireZero hz]
      exact ⟨d, hd, by constructor⟩

/-- What decodes from two slots has them as its encoding: by subtype. -/
theorem decodeWide_encodes (h : decodeWide f g = .ok i) (ho : f.opcode = 0x18) :
    i.wellFormed v = true ∧ f = i.fields v ∧ i.secondFields = some g := by
  obtain ⟨d, hf, hg, hi⟩ := decodeWide_ok h
  rw [hf, hg, ho]
  generalize f.src = n at hi ⊢
  generalize g.imm = next at hi ⊢
  cases hi <;> exact ⟨rfl, rfl, rfl⟩

end

/-- Settles O2: by opcode, one slot or two; the slots are read back from the bytes. -/
theorem encodeOfDecode : Obligations.EncodeOfDecode := by
  intro v bytes rest i h
  unfold decode at h
  split at h
  case h_1 => cases h
  case h_2 f after hf =>
    split at h
    case isFalse =>
      obtain ⟨i, hi, h⟩ := decoded_map_ok h
      cases h
      obtain ⟨hw, hfields, hs⟩ := decodeBasic_encodes hi
      exact ⟨hw, by rw [bytes_of_slotFields hf, encode, hs, hfields, List.append_nil]⟩
    case isTrue ho =>
      split at h
      case h_1 => cases h
      case h_2 g rest' hg =>
        obtain ⟨i, hi, h⟩ := decoded_map_ok h
        cases h
        obtain ⟨hw, hfields, hs⟩ := decodeWide_encodes hi ho
        exact ⟨hw, by rw [bytes_of_slotFields hf, bytes_of_slotFields hg, encode, hs, ← hfields, List.append_assoc]⟩

/-- The slot of the source's worked example, in both byte orders (R119). -/
theorem encode_workedExample (v : Variant) : encode v (.add64K 1 0x11223344) =
    match v.endian with
    | .little => [0x07, 0x01, 0x00, 0x00, 0x44, 0x33, 0x22, 0x11]
    | .big => [0x07, 0x10, 0x00, 0x00, 0x11, 0x22, 0x33, 0x44] := by
  have hf : (Instr.add64K 1 0x11223344).fields v = ⟨0x07, 1, 0, 0, 0x11223344⟩ := rfl
  rw [encode, hf, Instr.secondFields, List.append_nil]
  cases v.endian <;> decide

/-- Settles O3: the example's bytes are what its instruction is written as, and decoding is the inverse of encoding. -/
theorem workedExampleDecodes : Obligations.WorkedExampleDecodes := by
  have hd (v : Variant) : decode v (encode v (.add64K 1 0x11223344)) = .ok (.add64K 1 0x11223344, []) := by
    simpa using decodeOfEncode v (.add64K 1 0x11223344) [] rfl
  refine ⟨fun v hv => ?_, fun v hv => ?_, by decide⟩
  · simpa only [encode_workedExample, hv] using hd v
  · simpa only [encode_workedExample, hv] using hd v

end Sys2Proof

namespace Sys2Proof.Machine

/-! ## Reserved encodings of one slot -/

section

variable {v : Variant} {f : Fields}

/-- A reserved opcode decodes to nothing, whatever the other fields (R110): it is none of those the decoder lists. -/
theorem decodeBasic_of_reserved (h : reservedOpcode f.opcode = true) :
    decodeBasic v f = .error (.reservedOpcode f.opcode) := by
  unfold decodeBasic
  split
  case h_116 => rfl
  all_goals next ho =>
    rw [eq_ofNat_of_toNat ho] at h
    exact absurd h (by decide)

/-- The atomic operations of R109. -/
def atomicSelectors : List Imm := [0x00, 0x01, 0x40, 0x41, 0x50, 0x51, 0xa0, 0xa1, 0xe1, 0xf1]

theorem decodeAtomicW_of_notMem (h : f.imm ∉ atomicSelectors) : decodeAtomicW f = .error (.reservedAtomic f.imm) := by
  unfold decodeAtomicW
  split
  case h_11 => rfl
  all_goals next hn => exact absurd (by rw [eq_ofNat_of_toNat hn]; decide) h

theorem decodeAtomicDW_of_notMem (h : f.imm ∉ atomicSelectors) : decodeAtomicDW f = .error (.reservedAtomic f.imm) := by
  unfold decodeAtomicDW
  split
  case h_11 => rfl
  all_goals next hn => exact absurd (by rw [eq_ofNat_of_toNat hn]; decide) h

/-- Another `imm` than those of R109 decodes to nothing, at both widths. -/
theorem decodeBasic_of_other_selector (ho : f.opcode = 0xc3 ∨ f.opcode = 0xdb) (h : f.imm ∉ atomicSelectors) :
    decodeBasic v f = .error (.reservedAtomic f.imm) := by
  obtain ⟨op, d, s, off, imm⟩ := f
  obtain rfl | rfl := ho
  · exact decodeAtomicW_of_notMem h
  · exact decodeAtomicDW_of_notMem h

end

/-! ## Reserved encodings at `pc`, with the slots reported -/

section

variable {s : State} {e : DecodeError}

/-- The slots reported, by the opcode of the slot at `pc`. -/
theorem illegalHere_eq : s.illegalHere = .illegalInstruction (slotAt s.program s.pc.toNat)
    (if s.slotHere.opcode = 0x18 then some (slotAt s.program (s.pc.toNat + 1)) else none) := by
  rw [slotHere_opcode]; rfl

/-- Where the bytes at `pc` decode to nothing, and are not too few, a step takes IllegalInstruction (R362). -/
theorem step_of_decode_error (h : s.fetches) (hd : decode s.platform.variant s.fetchBytes = .error e)
    (he : e ≠ .truncated) : step s = .next (s.raise s.illegalHere) := by
  have hf : s.fetch = .error s.illegalHere := by
    rw [fetch_of_fetches h, hd]
    cases e
    case truncated => exact absurd rfl he
    all_goals rfl
  obtain ⟨hr, hc, -⟩ := h
  exact step_of_fetch_error hr hc hf

/-- Where the bytes at `pc` are too few, a step takes PcOutOfRange (R98). -/
theorem step_of_truncated (h : s.fetches) (hd : decode s.platform.variant s.fetchBytes = .error .truncated) :
    step s = .next (s.raise (.pcOutOfRange s.pc)) := by
  have hf : s.fetch = .error (.pcOutOfRange s.pc) := by rw [fetch_of_fetches h, hd]
  obtain ⟨hr, hc, -⟩ := h
  exact step_of_fetch_error hr hc hf

/-- A slot that decodes to nothing by its own fields is reported alone. -/
theorem step_of_decodeBasic_error (h : s.fetches) (ho : s.slotHere.opcode ≠ 0x18)
    (hb : decodeBasic s.platform.variant s.slotHere = .error e) :
    step s = .next (s.raise (.illegalInstruction (slotAt s.program s.pc.toNat) none)) := by
  have hd := decode_of_basic h ho
  rw [hb] at hd
  rw [step_of_decode_error h hd fun he => decodeBasic_ne _ _ (he ▸ hb), illegalHere_eq, if_neg ho]

/-- A slot with a reserved opcode (R110). -/
theorem step_of_reserved (h : s.fetches) (hr : reservedOpcode s.slotHere.opcode = true) :
    step s = .next (s.raise (.illegalInstruction (slotAt s.program s.pc.toNat) none)) := by
  refine step_of_decodeBasic_error h (fun ho => ?_) (decodeBasic_of_reserved hr)
  rw [ho] at hr
  exact absurd hr (by decide)

/-! ### Opcode 0x18 -/

/-- The slot after the one at `pc`. -/
theorem slotFields_slotAt_succ (h0 : 0 ≤ s.pc) :
    slotFields s.platform.variant.endian (slotBytes (slotAt s.program (s.pc.toNat + 1))) =
      some (({ s with pc := s.pc + 1 } : State).slotHere, []) := by
  obtain ⟨g, hg, -⟩ := slotFields_slotBytes s.platform.variant.endian (slotAt s.program (s.pc.toNat + 1)) []
  have hn : (s.pc + 1).toNat = s.pc.toNat + 1 := by omega
  simp only [State.slotHere, hn, hg]

/-- A wide instruction in the last slot is too short (R98). -/
theorem decode_of_wide_last (h : s.fetches) (ho : s.slotHere.opcode = 0x18) (hl : s.pc + 1 = s.program.length) :
    decode s.platform.variant s.fetchBytes = .error .truncated := by
  obtain ⟨-, -, h0, h1⟩ := h
  rw [decode, slotFields_fetchBytes h0 h1]
  simp only [if_pos ho, hl, lt_irrefl, if_false, slotFields]

/-- A wide instruction with a slot after it decodes by the fields of the two. -/
theorem decode_of_wide_slots (h : s.fetches) (ho : s.slotHere.opcode = 0x18) (h2 : s.pc + 1 < s.program.length) :
    decode s.platform.variant s.fetchBytes =
      (decodeWide s.slotHere ({ s with pc := s.pc + 1 } : State).slotHere).map fun i => (i, []) := by
  obtain ⟨-, -, h0, h1⟩ := h
  rw [decode, slotFields_fetchBytes h0 h1]
  simp only [if_pos ho, if_pos h2, slotFields_slotAt_succ h0]

/-- Two slots that decode to nothing are both reported. -/
theorem step_of_decodeWide_error (h : s.fetches) (ho : s.slotHere.opcode = 0x18) (h2 : s.pc + 1 < s.program.length)
    (hw : decodeWide s.slotHere ({ s with pc := s.pc + 1 } : State).slotHere = .error e) :
    step s = .next (s.raise (.illegalInstruction (slotAt s.program s.pc.toNat)
      (some (slotAt s.program (s.pc.toNat + 1))))) := by
  have hd := decode_of_wide_slots h ho h2
  rw [hw] at hd
  rw [step_of_decode_error h hd fun he => decodeWide_ne _ _ (he ▸ hw), illegalHere_eq, if_pos ho]

end

/-- Settles O14: the fault taken changes the status alone, and reports the slots by the opcode. -/
theorem illegalEncodingsFault : Obligations.IllegalEncodingsFault := by
  intro s e h hd he
  rw [step_of_decode_error h hd he, illegalHere_eq, State.raise]

/-- Settles O9: another selector is refused at its width, and the opcodes of the other two are reserved. -/
theorem otherAtomicSelectorsAreIllegal : Obligations.OtherAtomicSelectorsAreIllegal := by
  intro s h hbad
  obtain ⟨ho, himm⟩ | ho | ho := hbad
  · refine step_of_decodeBasic_error h (fun hw => ?_) (decodeBasic_of_other_selector ho himm)
    rw [hw] at ho
    exact absurd ho (by decide)
  · exact step_of_reserved h (by rw [ho]; decide)
  · exact step_of_reserved h (by rw [ho]; decide)

/-- Settles O11: two slots that decode have a subtype up to 6 and a second slot that is zero but for `imm`. -/
theorem wideInstructionChecks : Obligations.WideInstructionChecks := by
  intro s h
  refine ⟨fun ho hl => step_of_truncated h (decode_of_wide_last h ho hl), fun ho h2 hbad => ?_,
    fun ho => step_of_reserved h (by rw [ho]; decide)⟩
  cases hw : decodeWide s.slotHere ({ s with pc := s.pc + 1 } : State).slotHere with
  | error e => exact step_of_decodeWide_error h ho h2 hw
  | ok i =>
    obtain ⟨d, -, hg, hi⟩ := decodeWide_ok hw
    rw [hg] at hbad
    obtain hs | hop | hdst | hsrc | hoff := hbad
    · exact absurd hi.le (Nat.not_le.2 hs)
    · exact absurd rfl hop
    · exact absurd rfl hdst
    · exact absurd rfl hsrc
    · exact absurd rfl hoff

/-! ## Opcodes that begin an instruction -/

/-- Bytes that make an instruction after each opcode that is not reserved: zeros, but for the width of a byte swap. -/
def sampleOperands (op : BitVec 8) : List Byte :=
  [0, 0, 0, if op = 0xd4 ∨ op = 0xdc then 16 else 0] ++ List.replicate 11 0

/-- Each of the 116 opcodes begins an instruction. -/
theorem decode_sampleOperands_isOk : ∀ op : BitVec 8, reservedOpcode op = false →
    (decode Variant.letter (op :: sampleOperands op)).isOk = true := by
  decide +kernel

/-- Settles O5: the opcodes are counted and sampled one by one; a reserved one is not in the decoder's list. -/
theorem reservedOpcodesAreIllegal : Obligations.ReservedOpcodesAreIllegal := by
  refine ⟨by decide +kernel, fun s h hr => step_of_reserved h hr, fun op hop => ?_⟩
  have hok := decode_sampleOperands_isOk op hop
  cases hd : decode Variant.letter (op :: sampleOperands op) with
  | ok p => exact ⟨_, _, p.2, p.1, hd⟩
  | error e =>
    rw [hd] at hok
    cases hok

end Sys2Proof.Machine

/-! PROOFS. The statements of the family on arithmetic (spec/40_alu.md): the 52 instructions by the shape of each
(destination and operand, operand first, operand alone) and by the form of the operand, and the sample words. -/

namespace Sys2Proof.Machine

section

variable {s s1 s2 : State} {dst : Dst} {src : Reg} {imm : Imm} {a b v : Word} {r : Half}

/-! ## The K and X forms of each shape

The result is a parameter `v` (`r` at 32 bits), so that each use says why the operation gives it: by definition, or by
a lemma on the operation. -/

theorem alu64_imm {f : Word → Word → Word} (ha : s.readReg dst.castSucc = .ok (a, s1))
    (hf : f a (imm.signExtend 64) = v) : alu64 f dst (.imm imm) s = .next ((s1.writeReg dst v).advance 1) :=
  hf ▸ alu64_of ha rfl

theorem alu64_reg {f : Word → Word → Word} (ha : s.readReg dst.castSucc = .ok (a, s1))
    (hb : s1.readReg src = .ok (b, s2)) (hf : f a b = v) :
    alu64 f dst (.reg src) s = .next ((s2.writeReg dst v).advance 1) :=
  hf ▸ alu64_of ha hb

theorem alu32_imm {f : Half → Half → Half} (ha : s.readReg dst.castSucc = .ok (a, s1))
    (hf : f (a.setWidth 32) imm = r) :
    alu32 f dst (.imm imm) s = .next ((s1.writeReg dst (r.setWidth 64)).advance 1) :=
  hf ▸ alu32_of ha rfl

theorem alu32_reg {f : Half → Half → Half} (ha : s.readReg dst.castSucc = .ok (a, s1))
    (hb : s1.readReg src = .ok (b, s2)) (hf : f (a.setWidth 32) (b.setWidth 32) = r) :
    alu32 f dst (.reg src) s = .next ((s2.writeReg dst (r.setWidth 64)).advance 1) :=
  hf ▸ alu32_of ha (operand32_reg hb)

theorem divide64_imm {f : Word → Word → Word} (ha : s.readReg dst.castSucc = .ok (a, s1))
    (hf : f a (imm.signExtend 64) = v) : divide64 f dst (.imm imm) s = .next ((s1.writeReg dst v).advance 1) :=
  hf ▸ divide64_of rfl ha

theorem divide64_reg {f : Word → Word → Word} (hb : s.readReg src = .ok (b, s1))
    (ha : s1.readReg dst.castSucc = .ok (a, s2)) (hf : f a b = v) :
    divide64 f dst (.reg src) s = .next ((s2.writeReg dst v).advance 1) :=
  hf ▸ divide64_of hb ha

theorem divide32_imm {f : Half → Half → Half} (ha : s.readReg dst.castSucc = .ok (a, s1))
    (hf : f (a.setWidth 32) imm = r) :
    divide32 f dst (.imm imm) s = .next ((s1.writeReg dst (r.setWidth 64)).advance 1) :=
  hf ▸ divide32_of rfl ha

theorem divide32_reg {f : Half → Half → Half} (hb : s.readReg src = .ok (b, s1))
    (ha : s1.readReg dst.castSucc = .ok (a, s2)) (hf : f (a.setWidth 32) (b.setWidth 32) = r) :
    divide32 f dst (.reg src) s = .next ((s2.writeReg dst (r.setWidth 64)).advance 1) :=
  hf ▸ divide32_of (operand32_reg hb) ha

theorem set64_imm {f : Word → Word} (hf : f (imm.signExtend 64) = v) :
    set64 f dst (.imm imm) s = .next ((s.writeReg dst v).advance 1) :=
  hf ▸ set64_of rfl

theorem set64_reg {f : Word → Word} (hb : s.readReg src = .ok (b, s1)) (hf : f b = v) :
    set64 f dst (.reg src) s = .next ((s1.writeReg dst v).advance 1) :=
  hf ▸ set64_of hb

theorem set32_imm {f : Half → Half} (hf : f imm = r) :
    set32 f dst (.imm imm) s = .next ((s.writeReg dst (r.setWidth 64)).advance 1) :=
  hf ▸ set32_of rfl

theorem set32_reg {f : Half → Half} (hb : s.readReg src = .ok (b, s1)) (hf : f (b.setWidth 32) = r) :
    set32 f dst (.reg src) s = .next ((s1.writeReg dst (r.setWidth 64)).advance 1) :=
  hf ▸ set32_of (operand32_reg hb)

/-! ## Shifts by the operand modulo the width (R144) -/

theorem shl_word (a b : Word) : shl a b = a <<< (b.toNat % 64) := by rw [shl, shiftAmount_word]

theorem shl_half (a b : Half) : shl a b = a <<< (b.toNat % 32) := by rw [shl, shiftAmount_half]

theorem shr_word (a b : Word) : shr a b = a >>> (b.toNat % 64) := by rw [shr, shiftAmount_word]

theorem shr_half (a b : Half) : shr a b = a >>> (b.toNat % 32) := by rw [shr, shiftAmount_half]

theorem sar_word (a b : Word) : sar a b = a.sshiftRight (b.toNat % 64) := by rw [sar, shiftAmount_word]

theorem sar_half (a b : Half) : sar a b = a.sshiftRight (b.toNat % 32) := by rw [sar, shiftAmount_half]

/-! ## Negation by `NEG_OPERAND` (R146) -/

theorem negOperand_src {p : Variant} {o : Operand} (h : p.negOperand = .src) : negOperand p dst o = o := by
  rw [negOperand, h]

theorem negOperand_dst {p : Variant} {o : Operand} (h : p.negOperand = .dst) :
    negOperand p dst o = .reg dst.castSucc := by
  rw [negOperand, h]

/-- NEG at 64 bits negates the operand `NEG_OPERAND` chooses. -/
theorem neg64_of {o o' : Operand} (ho : negOperand s.platform.variant dst o = o') (hb : s.operand64 o' = .ok (b, s1)) :
    neg64 dst o s = .next ((s1.writeReg dst (0 - b)).advance 1) := by
  rw [neg64, ho, set64_of hb]

/-- NEG at 32 bits, of the same operand. -/
theorem neg32_of {o o' : Operand} (ho : negOperand s.platform.variant dst o = o') (hb : s.operand32 o' = .ok (r, s1)) :
    neg32 dst o s = .next ((s1.writeReg dst ((0 - r).setWidth 64)).advance 1) := by
  rw [neg32, ho, set32_of hb, zext64]

end

/-! ## The statements -/

/-- Settles O27: the mask of the model is the remainder modulo the width (`shiftAmount_word`, `shiftAmount_half`). -/
theorem shiftsAreMasked : Obligations.ShiftsAreMasked := by
  intro s s1 dst a ha
  refine ⟨fun imm => ?kForms, fun src b s2 hb => ?xForms⟩
  case kForms =>
    exact ⟨alu64_imm ha (shl_word _ _), alu32_imm ha (shl_half _ _),
      alu64_imm ha (shr_word _ _), alu32_imm ha (shr_half _ _),
      alu64_imm ha (sar_word _ _), alu32_imm ha (sar_half _ _)⟩
  case xForms =>
    exact ⟨alu64_reg ha hb (shl_word _ _), alu32_reg ha hb (shl_half _ _),
      alu64_reg ha hb (shr_word _ _), alu32_reg ha hb (shr_half _ _),
      alu64_reg ha hb (sar_word _ _), alu32_reg ha hb (sar_half _ _)⟩

/-- Settles O24: the sum and the difference are those of the words, by definition. -/
theorem addAndSubtract : Obligations.AddAndSubtract := by
  intro s s1 dst a ha
  refine ⟨fun imm => ?kForms, fun src b s2 hb => ?xForms⟩
  case kForms => exact ⟨alu64_imm ha rfl, alu32_imm ha rfl, alu64_imm ha rfl, alu32_imm ha rfl⟩
  case xForms => exact ⟨alu64_reg ha hb rfl, alu32_reg ha hb rfl, alu64_reg ha hb rfl, alu32_reg ha hb rfl⟩

/-- Settles O25: MUL reads its destination first; DIV and MOD read it after the operand, which for the K forms is the
same, an immediate being no read. -/
theorem multiplyDivideModulo : Obligations.MultiplyDivideModulo := by
  refine ⟨fun s s1 dst a ha => ⟨fun imm => ?kForms, fun src b s2 hb => ?mulX⟩,
    fun s s1 s2 dst src a b hb ha => ?divideX⟩
  case kForms =>
    exact ⟨alu64_imm ha rfl, alu32_imm ha rfl, divide64_imm ha rfl, divide32_imm ha rfl, divide64_imm ha rfl,
      divide32_imm ha rfl⟩
  case mulX => exact ⟨alu64_reg ha hb rfl, alu32_reg ha hb rfl⟩
  case divideX =>
    exact ⟨divide64_reg hb ha rfl, divide32_reg hb ha rfl, divide64_reg hb ha rfl, divide32_reg hb ha rfl⟩

/-- Settles O26: each bitwise operation is that of the words, by definition. -/
theorem orAndXor : Obligations.OrAndXor := by
  intro s s1 dst a ha
  refine ⟨fun imm => ?kForms, fun src b s2 hb => ?xForms⟩
  case kForms =>
    exact ⟨alu64_imm ha rfl, alu32_imm ha rfl, alu64_imm ha rfl, alu32_imm ha rfl, alu64_imm ha rfl,
      alu32_imm ha rfl⟩
  case xForms =>
    exact ⟨alu64_reg ha hb rfl, alu32_reg ha hb rfl, alu64_reg ha hb rfl, alu32_reg ha hb rfl, alu64_reg ha hb rfl,
      alu32_reg ha hb rfl⟩

/-- Settles O28: by the parameter, the operand negated is the one written or the destination. -/
theorem negateByParameter : Obligations.NegateByParameter := by
  intro s dst
  refine ⟨fun hp => ⟨fun imm => ?srcK, fun src b s1 hb => ?srcX⟩, fun hp imm src a s1 ha => ?dst⟩
  case srcK => exact ⟨neg64_of (negOperand_src hp) rfl, neg32_of (negOperand_src hp) rfl⟩
  case srcX => exact ⟨neg64_of (negOperand_src hp) hb, neg32_of (negOperand_src hp) (operand32_reg hb)⟩
  case dst =>
    have ha32 : s.operand32 (.reg dst.castSucc) = .ok (a.setWidth 32, s1) := operand32_reg ha
    exact ⟨neg64_of (negOperand_dst hp) ha, neg32_of (negOperand_dst hp) ha32,
      neg64_of (negOperand_dst hp) ha, neg32_of (negOperand_dst hp) ha32⟩

/-- Settles O29: MOV writes its operand, which is all it reads. -/
theorem moveCopies : Obligations.MoveCopies := by
  intro s dst
  refine ⟨fun imm => ?kForms, fun src b s1 hb => ?xForms⟩
  case kForms => exact ⟨set64_imm rfl, set32_imm rfl⟩
  case xForms => exact ⟨set64_reg hb rfl, set32_reg hb rfl⟩

end Sys2Proof.Machine

namespace Sys2Proof

/-! ## Words of the opcode table's numbering -/

/-- A word of the table whose slots are written as an instruction's bytes, and others after them, decodes to that
instruction: decoding is the inverse of encoding. -/
theorem decodeTableWord_of_encode {nbits w : Nat} {i : Instr} {rest : List Byte} (hi : i.wellFormed .letter = true)
    (hb : (tableFields nbits w).1.bytes Variant.letter.endian ++ (tableFields nbits w).2.bytes Variant.letter.endian =
      encode .letter i ++ rest) : decodeTableWord nbits w = some i := by
  simp only [decodeTableWord, hb, decodeOfEncode .letter i rest hi]

/-- A word of 64 bits is one slot; the second slot of the numbering is zeros, and belongs to no instruction. -/
theorem decodeTableWord_of_slot {w : Nat} {i : Instr} (hi : i.wellFormed .letter = true)
    (hw : (tableFields 64 w).1 = i.fields .letter) (hs : i.secondFields = none) : decodeTableWord 64 w = some i := by
  refine decodeTableWord_of_encode (rest := (tableFields 64 w).2.bytes Variant.letter.endian) hi ?_
  rw [hw, encode, hs, List.append_nil]

/-- A word of 128 bits is two slots. -/
theorem decodeTableWord_of_slots {w : Nat} {i : Instr} (hi : i.wellFormed .letter = true)
    (hw : (tableFields 128 w).1 = i.fields .letter) (hs : i.secondFields = some (tableFields 128 w).2) :
    decodeTableWord 128 w = some i := by
  refine decodeTableWord_of_encode (rest := []) hi ?_
  rw [hw, encode, hs, List.append_nil]

/-- Settles O4: the fields of each word are those its instruction is encoded with. -/
theorem sampleWordsDecode : Obligations.SampleWordsDecode := by
  refine ⟨?_, ?_, ?_, ?_, ?_, ?_, ?_, ?_, ?_, ?_, ?wide⟩
  case wide => exact decodeTableWord_of_slots rfl (by decide) (by decide)
  all_goals exact decodeTableWord_of_slot rfl (by decide) rfl

end Sys2Proof

/-! PROOFS. The statements of the family on byte swaps (spec/41_byteswap.md): the widths refused, and the value of each
width in the host's byte order and in the other one. -/

namespace Sys2Proof.Machine

section

variable {v : Variant} {f : Fields}

/-! ## Widths refused (R208) -/

/-- A byte swap that decodes has one of the three widths. -/
theorem imm_of_decodeSwap {m16 m32 m64 : Dst → Instr} {i : Instr} (h : decodeSwap m16 m32 m64 f = .ok i) :
    f.imm = 16 ∨ f.imm = 32 ∨ f.imm = 64 := by
  obtain ⟨d, ⟨-, hf⟩ | ⟨-, hf⟩ | ⟨-, hf⟩⟩ := decodeSwap_ok h
  · exact .inl (congrArg Fields.imm hf)
  · exact .inr (.inl (congrArg Fields.imm hf))
  · exact .inr (.inr (congrArg Fields.imm hf))

/-- Which refusal it is, an unused field decides: it is looked at before the width. -/
theorem exists_decodeSwap_error (m16 m32 m64 : Dst → Instr) (h16 : f.imm ≠ 16) (h32 : f.imm ≠ 32) (h64 : f.imm ≠ 64) :
    ∃ e, decodeSwap m16 m32 m64 f = .error e := by
  cases hd : decodeSwap m16 m32 m64 f with
  | error e => exact ⟨e, rfl⟩
  | ok i =>
    obtain hi | hi | hi := imm_of_decodeSwap hd
    · exact absurd hi h16
    · exact absurd hi h32
    · exact absurd hi h64

theorem exists_decodeBasic_error_of_swap_width (ho : f.opcode = 0xd4 ∨ f.opcode = 0xdc) (h16 : f.imm ≠ 16)
    (h32 : f.imm ≠ 32) (h64 : f.imm ≠ 64) : ∃ e, decodeBasic v f = .error e := by
  obtain ⟨op, d, s, off, imm⟩ := f
  obtain rfl | rfl := ho
  · exact exists_decodeSwap_error .le16 .le32 .le64 h16 h32 h64
  · exact exists_decodeSwap_error .be16 .be32 .be64 h16 h32 h64

end

/-- Settles O6: another width does not decode, and the opcodes in class ALU64 are reserved. -/
theorem otherSwapWidthsAreIllegal : Obligations.OtherSwapWidthsAreIllegal := by
  intro s h hbad
  obtain ⟨ho, h16, h32, h64⟩ | ho | ho := hbad
  · obtain ⟨e, he⟩ := exists_decodeBasic_error_of_swap_width (v := s.platform.variant) ho h16 h32 h64
    refine step_of_decodeBasic_error h (fun hw => ?_) he
    rw [hw] at ho
    exact absurd ho (by decide)
  · exact step_of_reserved h (by rw [ho]; decide)
  · exact step_of_reserved h (by rw [ho]; decide)

/-! ## Conversion to a named byte order (R201) -/

section

variable {s s1 : State} {dst : Dst} {a v : Word} {n : Nat} {named : Endian}

theorem convert_host_order (n : Nat) (e : Endian) (a : Word) : convert n e e a = (a.setWidth n).setWidth 64 := if_pos rfl

theorem convert_other_order {host : Endian} (h : named ≠ host) (n : Nat) (a : Word) :
    convert n named host a = bswap n a := if_neg h

/-- In the host's order the low `n` bits are kept. The result is a parameter `v`, as for the shapes of arithmetic. -/
theorem swapReg_host_order (he : s.platform.variant.endian = named) (ha : s.readReg dst.castSucc = .ok (a, s1))
    (hv : (a.setWidth n).setWidth 64 = v) :
    swapReg (convert n named s.platform.variant.endian) dst s = .next ((s1.writeReg dst v).advance 1) := by
  rw [swapReg_of ha, he, convert_host_order, hv]

/-- In the other order their bytes are reversed. -/
theorem swapReg_other_order (he : named ≠ s.platform.variant.endian) (ha : s.readReg dst.castSucc = .ok (a, s1))
    (hv : bswap n a = v) :
    swapReg (convert n named s.platform.variant.endian) dst s = .next ((s1.writeReg dst v).advance 1) := by
  rw [swapReg_of ha, convert_other_order he, hv]

end

/-- Settles O30: the order named is the host's or the other one, and a reversal is a concatenation of the bytes
(`bswap_16`, `bswap_32`, `bswap_64`). -/
theorem byteSwapsByHostOrder : Obligations.ByteSwapsByHostOrder := by
  intro s s1 dst a ha
  have whole : (a.setWidth 64).setWidth 64 = a := by rw [BitVec.setWidth_eq, BitVec.setWidth_eq]
  refine ⟨fun he => ?little, fun he => ?big⟩
  case little =>
    have hne : Endian.big ≠ s.platform.variant.endian := by rw [he]; decide
    exact ⟨swapReg_host_order he ha rfl, swapReg_host_order he ha rfl, swapReg_host_order he ha whole,
      swapReg_other_order hne ha (bswap_16 a), swapReg_other_order hne ha (bswap_32 a),
      swapReg_other_order hne ha (bswap_64 a)⟩
  case big =>
    have hne : Endian.little ≠ s.platform.variant.endian := by rw [he]; decide
    exact ⟨swapReg_host_order he ha rfl, swapReg_host_order he ha rfl, swapReg_host_order he ha whole,
      swapReg_other_order hne ha (bswap_16 a), swapReg_other_order hne ha (bswap_32 a),
      swapReg_other_order hne ha (bswap_64 a)⟩

end Sys2Proof.Machine

/-! PROOFS. The statements of the family on jumps (spec/42_jump.md): the calls refused, helper calls, local calls and
their exit, and the conditional jumps by comparison and by the form of the operand. -/

namespace Sys2Proof.Machine

/-! ## Calls refused (R271) -/

section

variable {v : Variant} {f : Fields}

/-- A call that decodes has one of the three kinds. -/
theorem src_of_decodeCall {i : Instr} (h : decodeCall v f = .ok i) : f.src.toNat < 3 := by
  obtain ⟨_, -, h⟩ := decoded_bind h
  split at h
  case h_1 hs | h_2 hs | h_3 hs => omega
  case h_4 => cases h

/-- Which refusal it is, the destination decides: it is looked at before the kind. -/
theorem exists_decodeBasic_error_of_call_kind (ho : f.opcode = 0x85) (h : 3 ≤ f.src.toNat) :
    ∃ e, decodeBasic v f = .error e := by
  obtain ⟨op, d, src, off, imm⟩ := f
  obtain rfl := ho
  cases hd : decodeCall v ⟨0x85, d, src, off, imm⟩ with
  | error e => exact ⟨e, hd⟩
  | ok i => exact absurd (src_of_decodeCall hd) (Nat.not_lt.2 h)

end

/-- Settles O7: another kind does not decode, and the three other opcodes are reserved. -/
theorem otherCallKindsAreIllegal : Obligations.OtherCallKindsAreIllegal := by
  intro s h hbad
  obtain ⟨ho, hsrc⟩ | ho | ho | ho := hbad
  · obtain ⟨e, he⟩ := exists_decodeBasic_error_of_call_kind (v := s.platform.variant) ho hsrc
    refine step_of_decodeBasic_error h (fun hw => ?_) he
    rw [hw] at ho
    exact absurd ho (by decide)
  · exact step_of_reserved h (by rw [ho]; decide)
  · exact step_of_reserved h (by rw [ho]; decide)
  · exact step_of_reserved h (by rw [ho]; decide)

/-! ## Registers that lose their values -/

/-- R1 to R5 hold no value after a call or a return (R268). -/
theorem reg_forgetArgs_of_arg (s : State) {r : Reg} (h1 : 1 ≤ r.val) (h5 : r.val ≤ 5) :
    s.forgetArgs.reg r = .unspecified := by
  obtain rfl | rfl | rfl | rfl | rfl : r = 1 ∨ r = 2 ∨ r = 3 ∨ r = 4 ∨ r = 5 := by
    revert h1 h5; revert r; decide
  all_goals simp [State.reg]

/-- Every other register keeps what it holds. -/
theorem reg_forgetArgs_of_notArg (s : State) {r : Reg} (h : r.val = 0 ∨ 6 ≤ r.val) :
    s.forgetArgs.reg r = s.reg r := by
  obtain rfl | rfl | rfl | rfl | rfl | rfl : r = 0 ∨ r = 6 ∨ r = 7 ∨ r = 8 ∨ r = 9 ∨ r = 10 := by
    revert h; revert r; decide
  all_goals simp [State.reg]

/-- The callee of a local call finds no value in R0 and R6 to R9. -/
theorem enterLocal_reg_of_mem {s t : State} {disp : Int} (hn : s.enterLocal disp = .ok t) {d : Dst}
    (h : d ∈ ([0, 6, 7, 8, 9] : List Dst)) : t.reg d.castSucc = .unspecified := by
  obtain ⟨-, -, -, -, hregs, -⟩ := enterLocal_ok hn
  rw [reg_castSucc, getElem_congr_coll hregs]
  simp only [List.mem_cons, List.not_mem_nil, or_false] at h
  obtain rfl | rfl | rfl | rfl | rfl := h <;> simp

/-! ## Helper calls -/

section

variable {s s1 : State} {kind : HelperKind} {id : BitVec 32} {hp : Helper} {args : List Word}

/-- Where the helper returned, R0 is its result, R1 to R5 hold no value and the rest is kept (R262). -/
theorem afterHelper_reg (s : State) (r0 : Word) (ws : List (Word × Byte)) :
    (s.afterHelper r0 ws).reg 0 = .value r0 ∧
      (∀ r : Reg, 1 ≤ r.val → r.val ≤ 5 → (s.afterHelper r0 ws).reg r = .unspecified) ∧
      (∀ r : Reg, 6 ≤ r.val → (s.afterHelper r0 ws).reg r = s.reg r) := by
  have hreg (r : Reg) : (s.afterHelper r0 ws).reg r = (s.writeReg 0 r0).forgetArgs.reg r := reg_congr _ _ r rfl rfl
  refine ⟨?result, fun r h1 h5 => ?scratch, fun r h6 => ?kept⟩
  case result => rw [hreg, reg_forgetArgs_of_notArg _ (.inl rfl)]; exact reg_writeReg_same s 0 r0
  case scratch => rw [hreg, reg_forgetArgs_of_arg _ h1 h5]
  case kept =>
    have hne : r ≠ (0 : Dst).castSucc := by rintro rfl; exact absurd h6 (by decide)
    rw [hreg, reg_forgetArgs_of_notArg _ (.inr h6), reg_writeReg_of_ne s r0 hne]

theorem callHelper_of_unknown (hf : findHelper s.platform kind id = none) :
    callHelper kind id s = .next (s.raise (.unknownHelper kind id)) := by
  simp only [callHelper, hf]

theorem callHelper_of_faults {info : Word} (hf : findHelper s.platform kind id = some hp)
    (hr : s.readRegs (hp.reads.map argReg) = .ok (args, s1)) (ho : s1.helperOutcome hp args = .faults info) :
    callHelper kind id s = .next (s.raise (.helperFault kind id info)) := by
  simp only [callHelper, hf, hr, ho]

/-- The state after a helper call that returns, by what the call began in: reading the arguments changes nothing but
`draws`. -/
theorem exists_callHelper_of_returns {r0 : Word} {ws : List (Word × Byte)}
    (hf : findHelper s.platform kind id = some hp) (hr : s.readRegs (hp.reads.map argReg) = .ok (args, s1))
    (ho : s1.helperOutcome hp args = .returns r0 ws) :
    ∃ k : Draws, callHelper kind id s = .next (State.afterHelper { s with draws := k } r0 ws) :=
  ⟨s1.draws, by rw [callHelper_of hf hr ho, ← readRegs_state hr]⟩

/-- What a helper's rules allow, it comes to: the result of a rule that applies, wherever one does. -/
theorem exists_rule_of_helperOutcome {rules : List HelperRule} (hb : hp.behaviour = .relation rules)
    (happ : ∃ r ∈ rules, holds (s.view args s.helperByte Config.helperAny) r.condition = true) :
    ∃ r ∈ rules, holds (s.view args s.helperByte Config.helperAny) r.condition = true ∧
      s.helperOutcome hp args = resultOutcome (s.view args s.helperByte Config.helperAny) r.result := by
  obtain hmem | ⟨hnone, -⟩ := helperOutcome_relation (s := s) (args := args) hb
  · obtain ⟨r, hr, hc, ho⟩ := mem_allowedOutcomes.1 hmem
    exact ⟨r, hr, hc, ho.symm⟩
  · obtain ⟨r, hr, hc⟩ := happ
    have hmem : resultOutcome (s.view args s.helperByte Config.helperAny) r.result ∈ s.helperOutcomes rules args :=
      mem_allowedOutcomes.2 ⟨r, hr, hc, rfl⟩
    rw [hnone] at hmem
    exact absurd hmem List.not_mem_nil

/-- Where no rule applies, the helper gives no result (R262). -/
theorem helperOutcome_of_no_rule {rules : List HelperRule} (hb : hp.behaviour = .relation rules)
    (hno : ∀ r ∈ rules, holds (s.view args s.helperByte Config.helperAny) r.condition = false) :
    s.helperOutcome hp args = .doesNotReturn := by
  obtain hmem | ⟨-, ho⟩ := helperOutcome_relation (s := s) (args := args) hb
  · obtain ⟨r, hr, hc, -⟩ := mem_allowedOutcomes.1 hmem
    exact absurd hc (by simp [hno r hr])
  · exact ho

end

/-- Settles O35: a call that returns leaves `State.afterHelper` of the state it began in (`afterHelper_reg` for the
registers, `read_applyWrites_last` and `read_applyWrites_other` for memory). -/
theorem helperCallReturns : Obligations.HelperCallReturns := by
  refine ⟨fun kind id s s1 h args r0 writes hf hr ho => ?returns, fun s h rules args hb =>
    ⟨exists_rule_of_helperOutcome hb, helperOutcome_of_no_rule hb⟩⟩
  obtain ⟨k, hcall⟩ := exists_callHelper_of_returns hf hr ho
  obtain ⟨hresult, hscratch, hkept⟩ := afterHelper_reg { s with draws := k } r0 writes
  refine ⟨_, by cases kind <;> exact hcall, hresult, hscratch, hkept, rfl, ?last, fun x hx => ?other,
    rfl, rfl, rfl, rfl, rfl⟩
  case last =>
    rintro before after a b rfl hlast hg
    exact read_applyWrites_last hlast hg
  case other => exact read_applyWrites_other hx

/-- Settles O36: the helper is looked up first, and its fault is taken in the state the call began in. -/
theorem helperCallFails : Obligations.HelperCallFails := by
  refine fun kind id s => ⟨fun hf => ?unknown, fun h args s1 info hf hr ho => ?faults⟩
  case unknown => cases kind <;> exact callHelper_of_unknown hf
  case faults => cases kind <;> exact callHelper_of_faults hf hr ho

/-! ## Local calls and their exit -/

/-- Reading memory after the bytes of a frame lost their values (R52). -/
theorem read_forgetFrame (m : Memory) (p : Platform) (d x : Nat) :
    (m.forgetFrame p d).read x =
      if (frameTop p d).toNat - p.stackSize ≤ x ∧ x < (frameTop p d).toNat then none else m.read x :=
  read_forget m _ _ x

/-- Settles O37: `enterLocal_ok` says what entering gives in each field, `read_forgetFrame` what is left of memory. -/
theorem localCallEnters : Obligations.LocalCallEnters := by
  intro s disp hd
  obtain ⟨t, ht⟩ := enterLocal_of disp.toInt hd
  obtain ⟨-, hframes, hr10, hmem, -, hpc, hstatus, hprogram, hplatform, hdraws⟩ := enterLocal_ok ht
  have hcall : exec (.callLocal disp) s = .next t := by
    show settle s (s.enterLocal disp.toInt) = .next t
    rw [ht, settle_ok]
  have hread (x : Nat) : t.mem.read x =
      if t.r10.toNat - s.platform.stackSize ≤ x ∧ x < t.r10.toNat then none else s.mem.read x := by
    rw [hmem, read_forgetFrame, hr10]
  refine ⟨t, hcall, hframes, hr10, enterLocal_reg_of_mem ht (d := 0) (by decide), fun r h6 h9 => ?saved,
    fun r h1 h5 => ?arguments, fun x hlo hhi => ?fresh, fun x hx => ?kept, hpc, hstatus, hprogram, hplatform, hdraws⟩
  case saved =>
    have hmem : ∀ d : Dst, 6 ≤ d.val → d ∈ ([0, 6, 7, 8, 9] : List Dst) := by decide
    exact enterLocal_reg_of_mem ht (hmem (r.castLT (by omega)) h6)
  case arguments =>
    have hmem : ∀ d : Dst, 1 ≤ d.val → d.val ≤ 5 → d ∉ ([0, 6, 7, 8, 9] : List Dst) := by decide
    exact enterLocal_reg_of_notMem ht (hmem (r.castLT (by omega)) h1 h5)
  case fresh => rw [hread, if_pos ⟨hlo, hhi⟩]
  case kept => rw [hread, if_neg (by omega)]

/-- EXIT at depth 0 ends the run with R0 (R265). -/
theorem exec_exit_of_nil {s s1 : State} {v : Word} (h : s.frames = []) (hr : s.readReg 0 = .ok (v, s1)) :
    exec .exit s = .next { s1 with status := .exited v } := by
  show execExit s = _
  simp only [execExit, h, hr, Except.map, settle_ok]

/-- Settles O39: by the call stack; above depth 0 the registers are those of `leaveLocal_reg`. -/
theorem exitReturnsOrEnds : Obligations.ExitReturnsOrEnds := by
  refine ⟨fun s s1 v => exec_exit_of_nil, fun s f rest hf => ?returns⟩
  obtain ⟨h0, hscratch, h6, h7, h8, h9, -⟩ := leaveLocal_reg s f rest
  exact ⟨_, exec_exit_of_cons hf, h6, h7, h8, h9, rfl, rfl, rfl, h0, hscratch, rfl, rfl, rfl, rfl, rfl⟩

/-! ## The comparisons, at either width (R213) -/

section

variable {n : Nat} (a b : BitVec n)

theorem condEq_iff : condEq a b = true ↔ a = b := beq_iff_eq

theorem condNe_iff : condNe a b = true ↔ a ≠ b := bne_iff_ne

theorem condSet_iff : condSet a b = true ↔ a &&& b ≠ 0 := bne_iff_ne

theorem condGt_iff : condGt a b = true ↔ b.toNat < a.toNat := decide_eq_true_iff

theorem condGe_iff : condGe a b = true ↔ b.toNat ≤ a.toNat := decide_eq_true_iff

theorem condLt_iff : condLt a b = true ↔ a.toNat < b.toNat := decide_eq_true_iff

theorem condLe_iff : condLe a b = true ↔ a.toNat ≤ b.toNat := decide_eq_true_iff

theorem condSgt_iff : condSgt a b = true ↔ b.toInt < a.toInt := decide_eq_true_iff

theorem condSge_iff : condSge a b = true ↔ b.toInt ≤ a.toInt := decide_eq_true_iff

theorem condSlt_iff : condSlt a b = true ↔ a.toInt < b.toInt := decide_eq_true_iff

theorem condSle_iff : condSle a b = true ↔ a.toInt ≤ b.toInt := decide_eq_true_iff

end

/-! ## The K and X forms of a conditional jump

The condition is a parameter `P`, so that each use names the comparison that decides it. -/

section

variable {s s1 s2 : State} {dst src : Reg} {imm : Imm} {off : Off} {a b : Word} {P : Prop} [Decidable P]

/-- A jump is taken exactly if its condition holds (R210, R212). -/
theorem next_of_branch {out : Outcome} {taken : Bool} (h : out = .next (s.branch taken off)) (hc : taken = true ↔ P) :
    out = .next { s with pc := if P then s.pc + 1 + off.toInt else s.pc + 1 } := by
  rw [h, branch_eq, if_congr hc rfl rfl]

theorem condJump64_imm {cond : Word → Word → Bool} (ha : s.readReg dst = .ok (a, s1))
    (hc : cond a (imm.signExtend 64) = true ↔ P) : condJump64 cond dst (.imm imm) off s =
      .next { s1 with pc := if P then s1.pc + 1 + off.toInt else s1.pc + 1 } :=
  next_of_branch (condJump64_of ha rfl) hc

theorem condJump64_reg {cond : Word → Word → Bool} (ha : s.readReg dst = .ok (a, s1))
    (hb : s1.readReg src = .ok (b, s2)) (hc : cond a b = true ↔ P) : condJump64 cond dst (.reg src) off s =
      .next { s2 with pc := if P then s2.pc + 1 + off.toInt else s2.pc + 1 } :=
  next_of_branch (condJump64_of (o := .reg src) ha hb) hc

theorem condJump32_imm {cond : Half → Half → Bool} (ha : s.readReg dst = .ok (a, s1))
    (hc : cond (a.setWidth 32) imm = true ↔ P) : condJump32 cond dst (.imm imm) off s =
      .next { s1 with pc := if P then s1.pc + 1 + off.toInt else s1.pc + 1 } :=
  next_of_branch (condJump32_of ha rfl) hc

theorem condJump32_reg {cond : Half → Half → Bool} (ha : s.readReg dst = .ok (a, s1))
    (hb : s1.readReg src = .ok (b, s2)) (hc : cond (a.setWidth 32) (b.setWidth 32) = true ↔ P) :
    condJump32 cond dst (.reg src) off s =
      .next { s2 with pc := if P then s2.pc + 1 + off.toInt else s2.pc + 1 } :=
  next_of_branch (condJump32_of ha (operand32_reg hb)) hc

end

/-- Settles O31: each form by its comparison. -/
theorem jumpsOnEqualityAndBits : Obligations.JumpsOnEqualityAndBits := by
  intro s s1 dst off a ha
  refine ⟨fun imm => ?kForms, fun src b s2 hb => ?xForms⟩
  case kForms =>
    exact ⟨condJump64_imm ha (condEq_iff _ _), condJump32_imm ha (condEq_iff _ _),
      condJump64_imm ha (condNe_iff _ _), condJump32_imm ha (condNe_iff _ _),
      condJump64_imm ha (condSet_iff _ _), condJump32_imm ha (condSet_iff _ _)⟩
  case xForms =>
    exact ⟨condJump64_reg ha hb (condEq_iff _ _), condJump32_reg ha hb (condEq_iff _ _),
      condJump64_reg ha hb (condNe_iff _ _), condJump32_reg ha hb (condNe_iff _ _),
      condJump64_reg ha hb (condSet_iff _ _), condJump32_reg ha hb (condSet_iff _ _)⟩

/-- Settles O32: each form by its comparison. -/
theorem jumpsOnUnsignedGreaterOrLess : Obligations.JumpsOnUnsignedGreaterOrLess := by
  intro s s1 dst off a ha
  refine ⟨fun imm => ?kForms, fun src b s2 hb => ?xForms⟩
  case kForms =>
    exact ⟨condJump64_imm ha (condGt_iff _ _), condJump32_imm ha (condGt_iff _ _),
      condJump64_imm ha (condGe_iff _ _), condJump32_imm ha (condGe_iff _ _),
      condJump64_imm ha (condLt_iff _ _), condJump32_imm ha (condLt_iff _ _)⟩
  case xForms =>
    exact ⟨condJump64_reg ha hb (condGt_iff _ _), condJump32_reg ha hb (condGt_iff _ _),
      condJump64_reg ha hb (condGe_iff _ _), condJump32_reg ha hb (condGe_iff _ _),
      condJump64_reg ha hb (condLt_iff _ _), condJump32_reg ha hb (condLt_iff _ _)⟩

/-- Settles O33: each form by its comparison. -/
theorem jumpsOnSignedGreaterAndUnsignedAtMost : Obligations.JumpsOnSignedGreaterAndUnsignedAtMost := by
  intro s s1 dst off a ha
  refine ⟨fun imm => ?kForms, fun src b s2 hb => ?xForms⟩
  case kForms =>
    exact ⟨condJump64_imm ha (condLe_iff _ _), condJump32_imm ha (condLe_iff _ _),
      condJump64_imm ha (condSgt_iff _ _), condJump32_imm ha (condSgt_iff _ _),
      condJump64_imm ha (condSge_iff _ _), condJump32_imm ha (condSge_iff _ _)⟩
  case xForms =>
    exact ⟨condJump64_reg ha hb (condLe_iff _ _), condJump32_reg ha hb (condLe_iff _ _),
      condJump64_reg ha hb (condSgt_iff _ _), condJump32_reg ha hb (condSgt_iff _ _),
      condJump64_reg ha hb (condSge_iff _ _), condJump32_reg ha hb (condSge_iff _ _)⟩

/-- Settles O34: each conditional form by its comparison; JA has no operand to read. -/
theorem jumpsOnSignedLessAndAlways : Obligations.JumpsOnSignedLessAndAlways := by
  refine ⟨fun s s1 dst off a ha => ⟨fun imm => ?kForms, fun src b s2 hb => ?xForms⟩, fun s off => rfl⟩
  case kForms =>
    exact ⟨condJump64_imm ha (condSlt_iff _ _), condJump32_imm ha (condSlt_iff _ _),
      condJump64_imm ha (condSle_iff _ _), condJump32_imm ha (condSle_iff _ _)⟩
  case xForms =>
    exact ⟨condJump64_reg ha hb (condSlt_iff _ _), condJump32_reg ha hb (condSlt_iff _ _),
      condJump64_reg ha hb (condSle_iff _ _), condJump32_reg ha hb (condSle_iff _ _)⟩

end Sys2Proof.Machine

/-! PROOFS. The statements of the family on loads and stores (spec/43_load_store.md): the twelve instructions by their
three shapes (load, store of an immediate, store of a register) and by width. -/

namespace Sys2Proof.Machine

/-- Settles O48: each load by the rule of its shape, at its width. -/
theorem loadsCompleteWithZeroExtension : Obligations.LoadsCompleteWithZeroExtension := by
  intro s s1 s2 dst src off base bs hbase
  have loads {wd : Width} := loadReg_of (s2 := s2) (dst := dst) (off := off) (wd := wd) (bs := bs) hbase
  exact ⟨loads, loads, loads, loads⟩

/-- Settles O49: at each width, ST by the rule of a store of an immediate and STX by that of a store of a register. -/
theorem storesComplete : Obligations.StoresComplete := by
  intro s s1 dst off base hbase
  have stores {wd : Width} (hc) := And.intro
    (fun imm => storeImm_of (imm := imm) (off := off) (wd := wd) hbase hc)
    fun src v s2 hv => storeReg_of (src := src) (v := v) (s2 := s2) hbase hv hc
  exact ⟨stores, stores, stores, stores⟩

end Sys2Proof.Machine

/-! PROOFS. The statements of the family on atomic operations (spec/44_atomic.md): the twenty instructions by their three
shapes (update, fetch, compare and exchange) and by width. -/

namespace Sys2Proof.Machine

/-- Zero extension loses nothing: the low half gives back what was extended. -/
theorem zext64_inj {a b : Half} : zext64 a = zext64 b ↔ a = b := by
  refine ⟨fun h => ?_, congrArg zext64⟩
  have hlow (c : Half) : low32 (zext64 c) = c := BitVec.setWidth_setWidth_of_le c (by decide)
  rw [← hlow a, h, hlow]

/-- Compare and exchange by whether the operands match: `P` says when they do, and storing the bits compared of the
source register stores the register (R305). -/
theorem atomicCompare_of_match_or_not {s s1 s2 s3 : State} {base src : Reg} {off : Off} {a e v : Word} {wd : Width}
    {bs : List Byte} {view : Word → Word} {P : Prop} (h : s.readReg base = .ok (a, s1))
    (h1 : s1.readReg 0 = .ok (e, s2)) (h2 : s2.readReg src = .ok (v, s3))
    (hr : checkAccess s.platform .read true (effAddr a off) wd = .ok ())
    (hw : checkAccess s.platform .write true (effAddr a off) wd = .ok ())
    (hb : s3.seenBytes (effAddr a off).toNat (widthBytes wd) = some bs)
    (hmatch : view (assemble s.platform.variant.endian bs) = view e ↔ P)
    (hstore : ∀ t : State, t.storeValue (effAddr a off) wd (view v) = t.storeValue (effAddr a off) wd v) :
    (P → atomicCompare wd view base src off s =
      .next ((((s3.noteLoad (effAddr a off).toNat bs).storeValue (effAddr a off) wd v).writeReg 0
        (assemble s.platform.variant.endian bs)).advance 1)) ∧
    (¬P → atomicCompare wd view base src off s =
      .next (((s3.noteLoad (effAddr a off).toNat bs).writeReg 0 (assemble s.platform.variant.endian bs)).advance 1)) := by
  have hcompare := atomicCompare_of (view := view) h h1 h2 hr hw hb
  refine ⟨fun hP => ?matched, fun hP => ?unmatched⟩
  case matched => rw [hcompare, if_pos (hmatch.2 hP), hstore]
  case unmatched => rw [hcompare, if_neg (mt hmatch.1 hP)]

/-- Settles O54: at W the low 32 bits are compared and stored, at DW all 64. -/
theorem compareAndExchangeCompletes : Obligations.CompareAndExchangeCompletes := by
  intro s s1 s2 s3 dst src off base expected v bs hbase hexpected hv
  refine ⟨fun hr hw hb => ?word, fun hr hw hb => ?doubleword⟩
  case word =>
    exact atomicCompare_of_match_or_not (view := fun u => zext64 (low32 u)) hbase hexpected hv hr hw hb zext64_inj
      fun t => storeValue_low32 t (effAddr base off) v
  case doubleword =>
    exact atomicCompare_of_match_or_not (view := id) hbase hexpected hv hr hw hb Iff.rfl fun _ => rfl

/-- Settles O52: each update by the rule of its shape, at W with its operation on the low halves. -/
theorem atomicUpdatesComplete : Obligations.AtomicUpdatesComplete := by
  intro s s1 s2 dst src off base v bs hbase hv
  have updates {wd : Width} (f) := atomicUpdate_of (off := off) (wd := wd) (bs := bs) (f := f) hbase hv
  refine ⟨fun hr hw hb => ?words, fun hr hw hb => ?doublewords⟩
  case words =>
    exact ⟨updates (at32 (· + ·)) hr hw hb, updates (at32 (· ||| ·)) hr hw hb, updates (at32 (· &&& ·)) hr hw hb,
      updates (at32 (· ^^^ ·)) hr hw hb⟩
  case doublewords =>
    exact ⟨updates (· + ·) hr hw hb, updates (· ||| ·) hr hw hb, updates (· &&& ·) hr hw hb,
      updates (· ^^^ ·) hr hw hb⟩

/-- Settles O53: each fetch by the rule of its shape; the exchange is the one whose new value is the register. -/
theorem atomicFetchesAndExchangesComplete : Obligations.AtomicFetchesAndExchangesComplete := by
  intro s s1 s2 dst src off base v bs hbase hv
  have fetches {wd : Width} (f) := atomicFetch_of (off := off) (wd := wd) (bs := bs) (f := f) hbase hv
  refine ⟨fun hr hw hb => ?words, fun hr hw hb => ?doublewords⟩
  case words =>
    exact ⟨fetches (at32 (· + ·)) hr hw hb, fetches (at32 (· ||| ·)) hr hw hb, fetches (at32 (· &&& ·)) hr hw hb,
      fetches (at32 (· ^^^ ·)) hr hw hb, fetches (at32 fun _ u => u) hr hw hb⟩
  case doublewords =>
    exact ⟨fetches (· + ·) hr hw hb, fetches (· ||| ·) hr hw hb, fetches (· &&& ·) hr hw hb,
      fetches (· ^^^ ·) hr hw hb, fetches (fun _ u => u) hr hw hb⟩

end Sys2Proof.Machine

/-! PROOFS. The statements of the family on 64-bit immediates (spec/45_imm64.md): what the lookups give where they are
defined, and the one write to the destination that all seven instructions end with. -/

namespace Sys2Proof.Machine

/-- `imm64` of R334 in two spellings: the two halves side by side, or each in its place in a double word. -/
theorem append_eq_shiftLeft_or (hi lo : Imm) :
    ((hi ++ lo : BitVec (32 + 32)) : Word) = (hi.setWidth 64 <<< 32) ||| lo.setWidth 64 :=
  (BitVec.setWidth_eq _).symm.trans BitVec.setWidth_append_eq_shiftLeft_setWidth_or

/-- A lookup that is defined is the load of its value (R344). -/
theorem loadLookup_of_some {found : Option Word} {v : Word} (k : Nat) (imm : Imm) (dst : Dst) (s : State)
    (h : found = some v) : loadLookup k imm dst found s = .next ((s.writeReg dst v).advance 2) := by
  subst h
  rfl

/-- Where both lookups are defined, the offset is added to the address of the map's first value (R336, R340). -/
theorem mapValue_of_some {p : Platform} {map : Option Word} {m v : Word} (nextImm : Imm) (hm : map = some m)
    (hv : p.mapVal.lookup m = some v) : mapValue p map nextImm = some (v + nextImm.setWidth 64) := by
  subst hm
  exact congrArg (Option.map _) hv

/-- Settles O55: LD_IMM64 by the two spellings of its constant, each other instruction by its lookup. -/
theorem wideConstantsAndLookupsComplete : Obligations.WideConstantsAndLookupsComplete := by
  intro s dst imm nextImm m v
  refine ⟨?constant, ?mapFd, ?mapValueFd, ?varAddr, ?codeAddr, ?mapIdx, ?mapValueIdx⟩
  case constant => exact congrArg (loadConst dst · s) (append_eq_shiftLeft_or nextImm imm)
  case mapFd => exact loadLookup_of_some 1 imm dst s
  case mapValueFd => exact fun hm hv => loadLookup_of_some 2 imm dst s (mapValue_of_some nextImm hm hv)
  case varAddr => exact loadLookup_of_some 3 imm dst s
  case codeAddr => exact loadLookup_of_some 4 imm dst s
  case mapIdx => exact loadLookup_of_some 5 imm dst s
  case mapValueIdx => exact fun hm hv => loadLookup_of_some 6 imm dst s (mapValue_of_some nextImm hm hv)

end Sys2Proof.Machine

/-! PROOFS. The statement of the family on legacy packet access (spec/46_legacy_packet.md): the modes of the loads and
stores that are not reserved, and the two legacy modes among the others. -/

namespace Sys2Proof.Machine

section

variable {op : BitVec 8}

/-- The modes of the loads and stores of v1.0: the 64-bit immediates, memory, the atomic operations. -/
def loadStoreModes : List (BitVec 3) := [0, 3, 6]

/-- An opcode among those a class lists has a mode that all of them have. -/
theorem mode_mem_of_listed {listed : List (BitVec 8)} {modes : List (BitVec 3)} (hr : (!listed.contains op) = false)
    (hl : ∀ x ∈ listed, x.extractLsb' 5 3 ∈ modes) : op.extractLsb' 5 3 ∈ modes :=
  hl op (List.contains_iff_mem.1 (by rwa [Bool.not_eq_false'] at hr))

/-- By class: each lists the opcodes that are not reserved (R110). -/
theorem mode_mem_of_not_reserved (hc : (op.extractLsb' 0 3).toNat ≤ 3) (hr : reservedOpcode op = false) :
    op.extractLsb' 5 3 ∈ loadStoreModes := by
  unfold reservedOpcode at hr
  generalize (op.extractLsb' 0 3).toNat = cls at hc hr
  obtain rfl | rfl | rfl | rfl : cls = 0 ∨ cls = 1 ∨ cls = 2 ∨ cls = 3 := by omega
  · obtain rfl : op = 0x18 := bne_eq_false_iff_eq.1 hr
    decide
  all_goals exact mode_mem_of_listed hr (by decide)

/-- Modes 1 (`BPF_ABS`) and 2 (`BPF_IND`) are none of those, so their opcodes are reserved (R351). -/
theorem reservedOpcode_of_legacy_mode (hm : op.extractLsb' 5 3 = 1 ∨ op.extractLsb' 5 3 = 2)
    (hc : (op.extractLsb' 0 3).toNat ≤ 3) : reservedOpcode op = true := by
  by_contra hr
  have hmode := mode_mem_of_not_reserved hc (Bool.eq_false_of_not_eq_true hr)
  obtain hm | hm := hm
  all_goals
    rw [hm] at hmode
    exact absurd hmode (by decide)

end

/-- Settles O8: a legacy opcode is reserved, and the 32 are counted one by one. -/
theorem legacyPacketOpcodesAreIllegal : Obligations.LegacyPacketOpcodesAreIllegal :=
  ⟨fun _ h hm hc => step_of_reserved h (reservedOpcode_of_legacy_mode hm hc), by decide +kernel⟩

end Sys2Proof.Machine

/-! PROOFS. The statements of the families on exceptions (spec/60_exceptions.md) and on reset and hazards
(spec/70_reset_and_hazards.md): how a run ends, fetches outside the program, the bound on calls, misaligned accesses,
undefined lookups, the entry state. -/

namespace Sys2Proof.Machine

/-! ## How a run ends -/

/-- What a step of a running machine did: it took a fault of the fetch, or ran the instruction fetched. -/
theorem step_next_of_running {s t : State} (hr : s.status = .running) (h : step s = .next t) :
    (∃ c, t = s.raise c) ∨ ∃ i, s.fetch = .ok i ∧ exec i s = .next t := by
  have hc : s.configured = true := by
    by_contra hn
    rw [step_of_malformed hr (Bool.eq_false_of_not_eq_true hn)] at h
    cases h
  cases hf : s.fetch with
  | error c =>
    rw [step_of_fetch_error hr hc hf] at h
    exact .inl ⟨c, (Host.Outcome.next.inj h).symm⟩
  | ok i =>
    rw [step_of_fetch_ok hr hc hf] at h
    exact .inr ⟨i, rfl, h⟩

/-- An instruction keeps the status, or it took a fault, or it was EXIT at depth 0 (R382). -/
theorem Effect.status {i : Instr} {s t : State} (h : Effect i s t) :
    t.status = s.status ∨
      (∃ v u, t.status = .exited v ∧ s.frames = [] ∧ i = .exit ∧ s.readReg 0 = .ok (v, u)) ∨
      ∃ c, t = s.raise c := by
  cases h with
  | faults c h => exact .inr (.inr ⟨c, h⟩)
  | ends v s1 hi hf hr h => subst h; exact .inr (.inl ⟨v, s1, rfl, hf, hi, hr⟩)
  | enters disp hi h =>
    obtain ⟨-, -, -, -, -, -, hstatus, -⟩ := enterLocal_ok h
    exact .inl hstatus
  | writes d n v k hw h => subst h; exact .inl rfl
  | moves p k h => subst h; exact .inl rfl
  | stores b off wd a v s1 al k ht hb hc h => subst h; exact .inl rfl
  | exchanges b off wd a v old s1 d k ht hw hb hc h => subst h; exact .inl rfl
  | compares d old k hw h => subst h; exact .inl rfl
  | helper k r0 ws hi h => subst h; exact .inl rfl
  | leaves f rest hi hf h => subst h; exact .inl rfl

/-- Settles O15: a step takes a fault of the fetch or runs the instruction fetched, and only EXIT at depth 0 and a fault
change the status. -/
theorem runEndsInOneOfTwoWays : Obligations.RunEndsInOneOfTwoWays := by
  refine ⟨fun s t hr h => ?_, fun s hs => step_of_final hs⟩
  obtain hfault | ⟨i, hf, he⟩ := step_next_of_running hr h
  · exact .inr (.inr hfault)
  · obtain hkept | ⟨v, u, hv, hframes, rfl, hread⟩ | hfault := (exec_next he).status
    · exact .inl (hkept.trans hr)
    · exact .inr (.inl ⟨v, u, hv, hframes, hf, hread⟩)
    · exact .inr (.inr hfault)

/-! ## Fetches outside the program -/

/-- Nothing is fetched where `pc` is no index of a slot (R363). -/
theorem fetch_of_outside {s : State} (h : s.pc < 0 ∨ (s.program.length : Int) ≤ s.pc) :
    s.fetch = .error (.pcOutOfRange s.pc) := if_pos h

/-- Settles O13: outside the program the fetch faults before decoding, and a wide instruction in the last slot is too
short to decode. -/
theorem fetchOutsideTheProgramFaults : Obligations.FetchOutsideTheProgramFaults :=
  ⟨fun _ hr hc h => step_of_fetch_error hr hc (fetch_of_outside h),
    fun _ h ho hl => step_of_truncated h (decode_of_wide_last h ho hl)⟩

/-! ## The bound on calls -/

/-- A local call is not entered where `frames` holds `MAX_CALL_DEPTH` records, or more (R366, log 17). -/
theorem enterLocal_at_bound {s : State} (disp : Int) (h : s.platform.maxCallDepth ≤ s.frames.length) :
    s.enterLocal disp = .error .callDepthExceeded := if_pos h

/-- Settles O38: the fault is taken in the state the call began in. -/
theorem localCallAtTheBoundFaults : Obligations.LocalCallAtTheBoundFaults := by
  intro s disp h
  show settle s (s.enterLocal disp.toInt) = _
  rw [enterLocal_at_bound _ h.ge, settle_error, State.raise]

/-! ## Misaligned accesses -/

section

variable {s : State} {p : Platform} {k : Access} {al : Bool} {addr : Word} {wd : Width} {v : Word}

/-- A computation in two parts fails in its first part or in its second. -/
theorem bind_error {α β : Type} {x : Except Cause α} {f : α → Except Cause β} {c : Cause}
    (h : x >>= f = .error c) : x = .error c ∨ ∃ a, x = .ok a ∧ f a = .error c := by
  cases x with
  | ok a => exact .inr ⟨a, rfl, h⟩
  | error d => exact .inl (congrArg _ (Except.error.inj h))

/-- Checks that do not ask for alignment fail with another cause. -/
theorem checkAccess_ne_misaligned (htop : addr.toNat + widthBytes wd ≤ 2 ^ 64) (hal : al = false) :
    checkAccess p k al addr wd ≠ .error (.misaligned addr wd) := by
  rw [checkAccess_eq_ite_admits htop (.inl hal)]
  split <;> simp

/-- A load whose checks pass can still meet a byte with no value; that is a memory fault. -/
theorem memRead_ne_misaligned (htop : addr.toNat + widthBytes wd ≤ 2 ^ 64) (h : s.platform.misaligned = .allow) :
    s.memRead addr wd ≠ .error (.misaligned addr wd) := fun he => by
  obtain hc | ⟨⟨⟩, -, hload⟩ := bind_error (show _ >>= _ = _ from he)
  · exact checkAccess_ne_misaligned htop (by rw [h]; rfl) hc
  · split at hload <;> cases hload

/-- A store whose checks pass does not fail. -/
theorem memWrite_ne_misaligned (htop : addr.toNat + widthBytes wd ≤ 2 ^ 64) (h : s.platform.misaligned = .allow) :
    s.memWrite addr wd v ≠ .error (.misaligned addr wd) := fun he => by
  obtain hc | ⟨⟨⟩, -, hstore⟩ := bind_error (show _ >>= _ = _ from he)
  · exact checkAccess_ne_misaligned htop (by rw [h]; rfl) hc
  · cases hstore

end

/-- Settles O43: where alignment is asked for, the second check of the access fails; where it is not, no other part of
it is Misaligned. -/
theorem misalignedAccessesFault : Obligations.MisalignedAccessesFault := by
  intro s addr wd htop hm
  refine ⟨fun hf => ?fault, fun update => ?atomic, fun ha => ?allow⟩
  case fault =>
    have hal : (s.platform.misaligned == .fault) = true := beq_iff_eq.2 hf
    exact ⟨by rw [State.memRead, checkAccess_misaligned htop hal hm, error_bind],
      fun v => by rw [State.memWrite, checkAccess_misaligned htop hal hm, error_bind]⟩
  case atomic => rw [State.atomically, checkAccess_misaligned htop rfl hm, error_bind]
  case allow => exact ⟨memRead_ne_misaligned htop ha, fun v => memWrite_ne_misaligned htop ha⟩

/-! ## Undefined lookups -/

/-- A lookup that is undefined is the fault that names it (R369). -/
theorem loadLookup_of_none {found : Option Word} (k : Nat) (imm : Imm) (dst : Dst) (s : State) (h : found = none) :
    loadLookup k imm dst found s = .next (s.raise (.platformLookupFault k imm)) := by
  subst h
  rfl

/-- No map was found. -/
theorem mapValue_of_no_map {p : Platform} {map : Option Word} (nextImm : Imm) (hm : map = none) :
    mapValue p map nextImm = none := by
  subst hm
  rfl

/-- The map found has no value (R369). -/
theorem mapValue_of_no_value {p : Platform} {map : Option Word} {m : Word} (nextImm : Imm) (hm : map = some m)
    (hv : p.mapVal.lookup m = none) : mapValue p map nextImm = none := by
  subst hm
  exact congrArg (Option.map _) hv

/-- Settles O56: each instruction by its lookup; the two that look up a map's value by the lookup that fails. -/
theorem undefinedLookupsFault : Obligations.UndefinedLookupsFault := by
  intro s dst imm nextImm
  refine ⟨fun hm => ⟨?mapFd, ?mapValueFd⟩, fun m hm hv => ?valueFd, ?varAddr, ?codeAddr,
    fun hm => ⟨?mapIdx, ?mapValueIdx⟩, fun m hm hv => ?valueIdx⟩
  case mapFd => exact loadLookup_of_none 1 imm dst s hm
  case mapValueFd => exact loadLookup_of_none 2 imm dst s (mapValue_of_no_map nextImm hm)
  case valueFd => exact loadLookup_of_none 2 imm dst s (mapValue_of_no_value nextImm hm hv)
  case varAddr => exact loadLookup_of_none 3 imm dst s
  case codeAddr => exact loadLookup_of_none 4 imm dst s
  case mapIdx => exact loadLookup_of_none 5 imm dst s hm
  case mapValueIdx => exact loadLookup_of_none 6 imm dst s (mapValue_of_no_map nextImm hm)
  case valueIdx => exact loadLookup_of_none 6 imm dst s (mapValue_of_no_value nextImm hm hv)

/-! ## The entry state -/

/-- A byte keeps its value where a frame loses its values exactly if it lies outside the frame (R52). -/
theorem read_forgetFrame_eq_some {m : Memory} {p : Platform} {d x : Nat} {b : Byte} :
    (m.forgetFrame p d).read x = some b ↔
      m.read x = some b ∧ (x < (frameTop p d).toNat - p.stackSize ∨ (frameTop p d).toNat ≤ x) := by
  rw [read_forgetFrame]
  split
  case isTrue hin => exact ⟨nofun, fun ⟨_, hout⟩ => absurd hout (by omega)⟩
  case isFalse hout => exact (and_iff_left (by omega)).symm

/-- By induction on the deepest frame: a byte keeps its value exactly if it lies outside every frame (R402). -/
theorem read_forgetFrames_eq_some {p : Platform} {x : Nat} {b : Byte} : ∀ {n : Nat} {m : Memory},
    (m.forgetFrames p n).read x = some b ↔
      m.read x = some b ∧ ∀ d, d ≤ n → x < (frameTop p d).toNat - p.stackSize ∨ (frameTop p d).toNat ≤ x
  | 0, m => by simp only [Memory.forgetFrames, read_forgetFrame_eq_some, Nat.le_zero, forall_eq]
  | n + 1, m => by
    simp only [Memory.forgetFrames, read_forgetFrames_eq_some, read_forgetFrame_eq_some, Nat.le_add_one_iff, or_imp,
      forall_and, forall_eq, and_assoc]
    exact and_congr_right' and_comm

/-- Settles O18: the registers are as given, and `read_forgetFrames_eq_some` says which bytes keep their values. -/
theorem entryState : Obligations.EntryState := by
  refine fun p prog a1 a2 a3 a4 a5 m => ⟨rfl, rfl, rfl, rfl, rfl, fun d x hd hlo hhi => ?inside, fun x hx => ?outside⟩
  case inside =>
    refine Option.eq_none_iff_forall_ne_some.2 fun b hb => ?_
    have hout := (read_forgetFrames_eq_some.1 hb).2 d hd
    omega
  case outside => exact Option.ext fun b => read_forgetFrames_eq_some.trans (and_iff_left hx)

end Sys2Proof.Machine
